-- ==== Sys2Proof/Word.lean ====
section
/-! DEFINITION. The byte, the frame and the indexed table: the plain data every other file is written in. -/

namespace Sys2Proof

/-- One byte of a frame. -/
abbrev Byte := BitVec 8

/-- A whole frame as the line delimits it: kind, length, body and the two CRC bytes (R2). -/
abbrev Frame := List Byte

/-- A table of many like cells, as (index, value) pairs. Its canonical form (indices strictly rising, no cell listed that
holds the value an unlisted cell reads as) is kept by the operations of `Machine/Table.lean`. -/
abbrev Table (α : Type) := List (Nat × α)

end Sys2Proof
end

