-- ==== Sys2Proof/Syntax.lean ====
section
/-! DEFINITION. The commands of the part: one constructor per row of spec/opcode_table.json. A frame's operands are its
fields as the line delivered them, length byte and CRC among them, so that a frame the checks on arrival turn away (R4)
is a command like any other. -/

namespace Sys2Proof

/-- A WEDGE frame as received, after its kind byte (R20). -/
structure WedgeFrame where
  length : Byte
  head : Byte
  wedge : BitVec 16
  track : BitVec 24
  a : BitVec 16
  b : BitVec 16
  c : BitVec 16
  d : BitVec 16
  flags : Byte
  crc : BitVec 16
  deriving DecidableEq, Repr

/-- A HOLD frame as received, after its kind byte (R20). -/
structure HoldFrame where
  length : Byte
  head : Byte
  track : BitVec 24
  offset : BitVec 16
  flags : Byte
  crc : BitVec 16
  deriving DecidableEq, Repr

/-- A FESTAT or FECMD frame as received, after its kind byte: the body is opaque (R2). -/
structure OpaqueFrame where
  length : Byte
  body : List Byte
  crc : BitVec 16
  deriving DecidableEq, Repr

/-- A MGMT frame as received, less its kind byte and the request and object codes, which the command's row and its
`object` operand give (R20, R144). -/
structure Request where
  length : Byte
  token : Byte
  count : Byte
  index : BitVec 16
  values : List (BitVec 32)
  crc : BitVec 16
  deriving DecidableEq, Repr

/-- The commands: the rows of spec/opcode_table.json, in the table's order. `arrival` is the reference tick at which the
frame's last byte is received (R1). -/
inductive Instr where
  | powerOnReset
  | wedge (arrival : Nat) (frame : WedgeFrame)
  | festat (frame : OpaqueFrame)
  | unknownKindUpstream (arrival : Nat) (bytes : Frame)
  | fecmd (frame : OpaqueFrame)
  | hold (frame : HoldFrame)
  | unknownKindDownstream (bytes : Frame)
  | get (object : Byte) (request : Request)
  | set (object : Byte) (request : Request)
  | setCounter (request : Request)
  | setAlertMask (request : Request)
  | setWedgesPerRevolution (request : Request)
  | setHeadrec (request : Request)
  | planStart (object : Byte) (request : Request)
  | planStop (object : Byte) (request : Request)
  | defectAdd (object : Byte) (request : Request)
  | defectRemove (object : Byte) (request : Request)
  | defectFlush (object : Byte) (request : Request)
  | alertClear (object : Byte) (request : Request)
  | runoutZero (object : Byte) (request : Request)
  | restart (object : Byte) (request : Request)
  | unknownRequest (code : Byte) (object : Byte) (request : Request)
  | wedgeMissed
  | idleTimeout
  | timeoutWait
  | budgetRefreshTimerExpiry
  | frontTransmitEnd
  | benchTransmitEnd
  deriving DecidableEq, Repr

end Sys2Proof
end

