-- ==== Sys2Proof/Decode.lean ====
section
/-! DEFINITION. Reading a command from a word of table bits. No row of spec/opcode_table.json has bits ("fields" is empty
in every row and no row has "fixed"), so no word spells a command. -/

namespace Sys2Proof

/-- The command a word spells by the table's bits: none, since the table gives no row any bits (log 16). -/
def decodeTableWord (_nbits _w : Nat) : Option Instr := none

end Sys2Proof
end

