-- ==== Sys2Proof/Config.lean ====
section
/-! DEFINITION. The numbers the spec fixes for this part: capacities, sizes of its tables, kind codes. The spec leaves no
value open, so there is no free value here. -/

namespace Sys2Proof.Config

/-- Heads the part holds records, tables and contexts for (R40, R44, R48). -/
def heads : Nat := 24
/-- Wedge indices the compensation table and the accumulator hold for a head (R75, R78). -/
def wedgeCells : Nat := 512
/-- Points of a linearization table (R44). -/
def linPoints : Nat := 9
/-- Slots of the Defect Table (R94). -/
def defectSlots : Nat := 256
/-- Plan step records (R117). -/
def planSteps : Nat := 32
/-- Counters of the Alert Unit (R156). -/
def counters : Nat := 24

/-- Capacity of the LOOP queue (R134). -/
def loopCapacity : Nat := 8
/-- Capacity of the ANSWER queue (R134). -/
def answerCapacity : Nat := 4
/-- Capacity of the REPORT queue (R134). -/
def reportCapacity : Nat := 32
/-- Capacity of the STATUS queue (R134). -/
def statusCapacity : Nat := 16
/-- Capacity of the front-port transmit FIFO (R12). -/
def fifoCapacity : Nat := 16

/-- Least and greatest base wedge period a measurement may have (R62, R63). -/
def minPeriod : Nat := 200
/-- See `minPeriod`. -/
def maxPeriod : Nat := 65535
/-- The most misses that can stand: the greatest loss limit (R66). -/
def maxMisses : Nat := 15
/-- Milliseconds the budget refresh timer is started with (R140). -/
def refreshMs : Nat := 10

/-- Kind code of WEDGE (R2). -/
def kindWedge : Byte := 0x21
/-- Kind code of FESTAT (R2). -/
def kindFestat : Byte := 0x22
/-- Kind code of FECMD (R2). -/
def kindFecmd : Byte := 0x31
/-- Kind code of HOLD (R2). -/
def kindHold : Byte := 0x32
/-- Kind code of MGMT (R2). -/
def kindMgmt : Byte := 0x41
/-- Kind code of POSITION (R2). -/
def kindPosition : Byte := 0x51
/-- Kind code of ANSWER (R2). -/
def kindAnswer : Byte := 0x53
/-- Kind code of REPORT (R2). -/
def kindReport : Byte := 0x54

end Sys2Proof.Config
end

