-- ==== Sys2Proof/Machine/State.lean ====
section
/-! DEFINITION. The state of the part, block by block, as plain data, with every block's power-on value; the reasons a step
can stop; the machine right after power-on reset. A structure's default values are its power-on values. -/

namespace Sys2Proof.Machine

/-! ### Link Interface and Output Scheduler -/

/-- The bench-port link-error latch: four causes, each set or clear (R9). -/
structure Latch where
  crc : Bool := false
  length : Bool := false
  misdirected : Bool := false
  fifoDrop : Bool := false
  deriving DecidableEq, Repr

/-- The Link Interface: the front-port transmit FIFO, oldest frame first; whether the front transmitter is sending its
oldest frame (R12, R14); the latch (R9). -/
structure Link where
  fifo : List Frame := []
  frontSending : Bool := false
  latch : Latch := {}
  deriving DecidableEq, Repr

/-- The report budget: UNLIMITED, or the notices left (R139). -/
inductive Budget where
  | unlimited
  | left (n : Nat)
  deriving DecidableEq, Repr

/-- The Output Scheduler (R134, R139, R140, R141): the four queues, oldest frame first; the round position 0..6; the report
budget; the budget refresh timer, with the milliseconds it was started with while it runs; the frame the bench-port
transmitter is sending. -/
structure Output where
  loop : List Frame := []
  answer : List Frame := []
  report : List Frame := []
  status : List Frame := []
  round : Nat := 0
  budget : Budget := .left 8
  refreshTimer : Option Nat := some Config.refreshMs
  sending : Option Frame := none
  deriving DecidableEq, Repr

/-! ### Alert Unit and settings -/

/-- The Alert Unit (R152, R154, R156): twelve flags, the mask (a set bit hides its flag), the counters by index (an
unlisted counter is 0). -/
structure Alerts where
  flags : BitVec 12 := 0
  mask : BitVec 12 := 2
  counters : Table Nat := []
  deriving DecidableEq, Repr

/-- The settings table (R148). -/
structure Settings where
  headCount : Nat := 24
  wedges : Nat := 256
  windowCode : Nat := 1
  lossLimit : Nat := 4
  idleTime : Nat := 20
  switchSettle : Nat := 4
  learnWindow : Nat := 2048
  threshold : Nat := 154
  tripCount : Nat := 3
  releaseCount : Nat := 3
  triggerMode : Nat := 0
  confirmThreshold : Nat := 3
  ageLimit : Nat := 32
  reportLimit : Nat := 8
  deriving DecidableEq, Repr

/-! ### Head Table and Context Store -/

/-- Forwarding mode of a head (R17, R40). -/
inductive FwdMode where
  | raw
  | corrected
  | both
  deriving DecidableEq, Repr

/-- Offset source of a head (R40, R45). -/
inductive OffsetSource where
  | own
  | track
  deriving DecidableEq, Repr

/-- A head record (R40). -/
structure HeadRec where
  enabled : Bool := true
  mode : FwdMode := .raw
  burstFloor : Nat := 256
  compEnable : Bool := false
  learnEnable : Bool := true
  defectLearn : Bool := false
  source : OffsetSource := .own
  ownOffset : Int := 0
  refHead : Nat := 0
  offsetDiff : Int := 0
  offsetValid : Bool := false
  deriving DecidableEq, Repr

/-- Monitor state of a head (R109). -/
inductive MonState where
  | clear
  | pending
  | tripped
  deriving DecidableEq, Repr

/-- A head context (R48). `retargeted` is the model's own: since the head's last eligible frame its target was changed, last by
a HOLD without SEEK taken with the switch settle setting above 0 (R57, R86; log 23). -/
structure HeadContext where
  targetValid : Bool := false
  targetTrack : Nat := 0
  targetOffset : Int := 0
  seeking : Bool := false
  settle : Nat := 0
  held : Int := 0
  lastTrack : Nat := 0
  monitor : MonState := .clear
  run : Nat := 0
  retargeted : Bool := false
  deriving DecidableEq, Repr

/-! ### Wedge Clock -/

/-- Clock states (R59). -/
inductive ClockState where
  | unlocked
  | acquiring
  | locked
  | coasting
  | lost
  deriving DecidableEq, Repr

/-- The expected wedge, its predicted arrival and its window half-width (R59, R64). -/
structure Expectation where
  wedge : Nat
  predicted : Nat
  halfWidth : Nat
  deriving DecidableEq, Repr

/-- A started acquisition record: start time, frames counted, sequence good (R59, R61). -/
structure Acquisition where
  start : Nat
  frames : Nat
  good : Bool
  deriving DecidableEq, Repr

/-- The Wedge Clock (R59). A timer is none while it is stopped and holds the milliseconds it was started with while it
runs; an acquisition record is none while it is not started. -/
structure Clock where
  state : ClockState := .unlocked
  revLength : Nat := 0
  period : Nat := 0
  remainder : Nat := 0
  expected : Option Expectation := none
  lastIndex : Option Nat := none
  missCount : Nat := 0
  missed : List Nat := []
  acquisition : Option Acquisition := none
  idleTimer : Option Nat := none
  stamp : BitVec 16 := 0
  deriving DecidableEq, Repr

/-! ### Runout Engine -/

/-- An accumulator cell: sum S and count n (R78). -/
structure Cell where
  sum : Int := 0
  count : Nat := 0
  deriving DecidableEq, Repr

/-- The bound head and the bound step (R78, R79). -/
structure Binding where
  head : Nat
  step : Nat
  deriving DecidableEq, Repr

/-- Pass states (R78). -/
inductive PassState where
  | unbound
  | ready
  | accumulate
  | solve
  deriving DecidableEq, Repr

/-- The pass parameters copied at binding: M, passes P_L, gain k in sixteenths, convergence limit C, fold (R79). -/
structure PassParams where
  revolutions : Nat
  passes : Nat
  gain : Nat
  limit : Nat
  fold : Bool
  deriving DecidableEq, Repr

/-- A pending solve: the new entry of every wedge below W, in wedge order, the fold D, and the figures of the pass
summary (R88). -/
structure PendingSolve where
  entries : List Int
  meanFold : Int
  updated : Nat
  thin : Nat
  saturated : Nat
  largest : Nat
  deriving DecidableEq, Repr

/-- The learning state of the Runout Engine (R78). Cells are by wedge; an unlisted cell is S 0, n 0. -/
structure Engine where
  cells : Table Cell := []
  binding : Option Binding := none
  pass : PassState := .unbound
  passNumber : Nat := 0
  revs : Nat := 0
  params : Option PassParams := none
  pendingSolve : Option PendingSolve := none
  deriving DecidableEq, Repr

/-! ### Defect Table -/

/-- State of a defect entry (R94). -/
inductive DefectState where
  | static
  | suspect
  | confirmed
  deriving DecidableEq, Repr

/-- A defect entry (R94). -/
structure DefectEntry where
  head : Nat
  wedge : Nat
  state : DefectState
  hits : Nat
  quiet : Nat
  mark : Bool
  deriving DecidableEq, Repr

/-! ### Plan Controller -/

/-- Phase of a plan step (R117). -/
inductive Phase where
  | none
  | settle
  | offset
  | learn
  | verify
  deriving DecidableEq, Repr

/-- What a failed step does to the plan (R117, R123). -/
inductive OnFail where
  | continue
  | stop
  deriving DecidableEq, Repr

/-- A plan step record (R117); `m` is the exponent of M = 2^m revolutions, `timeout` the wait timeout in ms. -/
structure PlanStep where
  phase : Phase := .none
  head : Nat := 0
  m : Nat := 0
  passes : Nat := 1
  gain : Nat := 16
  limitA : Nat := 0
  limitB : Nat := 0
  fold : Bool := false
  onFail : OnFail := .continue
  timeout : Nat := 0
  deriving DecidableEq, Repr

/-- Plan states (R118). -/
inductive PlanState where
  | idle
  | running
  | ended
  deriving DecidableEq, Repr

/-- Sub-states of the current step (R118). -/
inductive SubState where
  | waiting
  | active
  deriving DecidableEq, Repr

/-- The measurement registers of the phases SETTLE (R126), OFFSET (R128) and VERIFY (R129). -/
structure Registers where
  settleUsed : Nat := 0
  settleClean : Nat := 0
  settleTrips : Nat := 0
  settleMark : Bool := false
  offsetRevs : Nat := 0
  offsetSum : Int := 0
  offsetCount : Nat := 0
  offsetOld : Int := 0
  verifyRevs : Nat := 0
  verifyGreatest : Nat := 0
  verifySum : Nat := 0
  verifyCount : Nat := 0
  deriving DecidableEq, Repr

/-- The LEARN tallies (R130). -/
structure Tallies where
  applied : Nat := 0
  largest : Nat := 0
  foldTotal : Int := 0
  deriving DecidableEq, Repr

/-- The running state of the Plan Controller (R118). -/
structure Plan where
  state : PlanState := .idle
  current : Option Nat := none
  sub : Option SubState := none
  waitTimer : Option Nat := none
  ended : Nat := 0
  failed : Nat := 0
  last : Option Nat := none
  regs : Registers := {}
  tallies : Tallies := {}
  deriving DecidableEq, Repr

/-! ### The part -/

/-- The whole state: each block's state, and the queue of commands that wait, oldest first (the model's own field). Tables
are by index: `headRecs` and `contexts` by head, `linTab` by head * 9 + point (R44), `runout` by head * 512 + wedge (R76),
`defects` by slot (an unlisted slot is empty, R94), `steps` by step. -/
structure State where
  pending : List Instr := []
  link : Link := {}
  out : Output := {}
  alerts : Alerts := {}
  settings : Settings := {}
  headRecs : Table HeadRec := []
  linTab : Table Int := []
  contexts : Table HeadContext := []
  activeHead : Option Nat := none
  clock : Clock := {}
  runout : Table Int := []
  engine : Engine := {}
  defects : Table DefectEntry := []
  steps : Table PlanStep := []
  plan : Plan := {}
  deriving DecidableEq, Repr

/-- The reasons a step can stop with a fault: none. The spec gives every command an effect, failed checks and refused
requests among them. -/
inductive Fault where
  deriving DecidableEq, Repr

/-- The reasons a command can have no meaning. -/
inductive Refusal where
  /-- Raised by an arm of `exec` whose command has no meaning in this model (no arm, as the model stands). Safe: the
  machine stops where the part goes on. -/
  | notModelled (mnemonic : String)
  deriving DecidableEq, Repr

/-- The part right after power-on reset: every block at its power-on value, no command waiting (R1, R9, R12, R40, R44, R48,
R59, R75, R78, R94, R117, R118, R134, R139, R140, R148, R152, R154, R156). -/
def State.reset : State := {}

end Sys2Proof.Machine
end

