-- ==== Sys2Proof/Machine/Table.lean ====
section
/-! DEFINITION. The operations on indexed tables. `get` and `set` serve tables whose unlisted cells read as a given value;
`find?`, `put` and `drop` serve tables whose cells can be empty. -/

namespace Sys2Proof.Machine

/-- What is listed at index `k`. -/
def Table.find? {α : Type} : Table α → Nat → Option α
  | [], _ => none
  | (j, v) :: t, k => if k = j then some v else Table.find? t k

/-- The table with `v` listed at index `k`, indices kept rising. -/
def Table.put {α : Type} : Table α → Nat → α → Table α
  | [], k, v => [(k, v)]
  | (j, u) :: t, k, v =>
    if k < j then (k, v) :: (j, u) :: t
    else if k = j then (k, v) :: t
    else (j, u) :: Table.put t k v

/-- The table with nothing listed at index `k`. -/
def Table.drop {α : Type} (t : Table α) (k : Nat) : Table α :=
  t.filter fun c => c.1 != k

/-- The cell at index `k`, where an unlisted cell reads as `dflt`. -/
def Table.get {α : Type} (dflt : α) (t : Table α) (k : Nat) : α :=
  (Table.find? t k).getD dflt

/-- The table with the cell at index `k` holding `v`: a cell that holds `dflt` is not listed. -/
def Table.set {α : Type} [DecidableEq α] (dflt : α) (t : Table α) (k : Nat) (v : α) : Table α :=
  if v = dflt then Table.drop t k else Table.put t k v

/-- The table with `vs` written from index `k` on. -/
def Table.setAll {α : Type} [DecidableEq α] (dflt : α) : Table α → Nat → List α → Table α
  | t, _, [] => t
  | t, k, v :: vs => Table.setAll dflt (Table.set dflt t k v) (k + 1) vs

/-- Indices strictly rise, and the least is at least `lo`. -/
def Table.rising {α : Type} : Nat → Table α → Bool
  | _, [] => true
  | lo, (j, _) :: t => decide (lo ≤ j) && Table.rising (j + 1) t

/-- Indices strictly rise and lie below `n`. -/
def Table.wf {α : Type} (n : Nat) (t : Table α) : Bool :=
  Table.rising 0 t && t.all fun c => decide (c.1 < n)

/-- `wf`, and no cell is listed that holds what an unlisted one reads as. -/
def Table.canonical {α : Type} [DecidableEq α] (dflt : α) (n : Nat) (t : Table α) : Bool :=
  Table.wf n t && t.all fun c => decide (c.2 ≠ dflt)

end Sys2Proof.Machine
end

