-- ==== Sys2Proof/Machine/Flags.lean ====
section
/-! DEFINITION. Every flag and counter: the alert flags, their mask and the attention flag (R152 to R155), the counters
(R156, R157), the flags of a POSITION frame (R18, R20). -/

namespace Sys2Proof.Machine

/-! ### Alerts -/

/-- The alert flags, in the order of their positions (R152). -/
inductive Alert where
  | clockLost
  | clockLocked
  | offtrack
  | defectConfirmed
  | defectFull
  | reportOverflow
  | answerDropped
  | frontLinkError
  | benchLinkError
  | stepDone
  | stepFailed
  | planEnd
  deriving DecidableEq, Repr

/-- The position of a flag (R152). -/
def Alert.position : Alert → Nat
  | .clockLost => 0
  | .clockLocked => 1
  | .offtrack => 2
  | .defectConfirmed => 3
  | .defectFull => 4
  | .reportOverflow => 5
  | .answerDropped => 6
  | .frontLinkError => 7
  | .benchLinkError => 8
  | .stepDone => 9
  | .stepFailed => 10
  | .planEnd => 11

/-- The flags value with this flag alone: 2^position (R152). -/
def Alert.weight (a : Alert) : BitVec 12 := BitVec.ofNat 12 (2 ^ a.position)

/-- Raising an alert sets its flag, whatever the mask holds (R152). -/
def raise (a : Alert) (s : State) : State :=
  { s with alerts := { s.alerts with flags := s.alerts.flags ||| a.weight } }

/-- Clearing every flag whose position is set in `m` (R150, R153). -/
def clearAlerts (m : BitVec 12) (s : State) : State :=
  { s with alerts := { s.alerts with flags := s.alerts.flags &&& ~~~m } }

/-- Replacing the mask (R154). -/
def setMask (m : BitVec 12) (s : State) : State :=
  { s with alerts := { s.alerts with mask := m } }

/-- The attention flag: some flag is set that the mask does not hide (R155). -/
def attention (s : State) : Bool :=
  s.alerts.flags &&& ~~~s.alerts.mask != 0

/-! ### Counters -/

/-- The counters, in the order of their indices (R156). -/
inductive Counter where
  | frontCrc
  | frontLength
  | frontMisdirected
  | benchCrc
  | benchLength
  | benchMisdirected
  | frontTransmitDrop
  | foreignHead
  | wedgeRange
  | windowMiss
  | missedWedges
  | slips
  | acquireFails
  | loopDrop
  | answerDrop
  | reportDrop
  | statusDrop
  | budgetDrop
  | defectDrop
  | passRestarts
  | heldFrames
  | saturatedFrames
  | thinWedges
  | stepsFailed
  deriving DecidableEq, Repr

/-- The index of a counter in the COUNTER object (R156). -/
def Counter.index : Counter → Nat
  | .frontCrc => 0
  | .frontLength => 1
  | .frontMisdirected => 2
  | .benchCrc => 3
  | .benchLength => 4
  | .benchMisdirected => 5
  | .frontTransmitDrop => 6
  | .foreignHead => 7
  | .wedgeRange => 8
  | .windowMiss => 9
  | .missedWedges => 10
  | .slips => 11
  | .acquireFails => 12
  | .loopDrop => 13
  | .answerDrop => 14
  | .reportDrop => 15
  | .statusDrop => 16
  | .budgetDrop => 17
  | .defectDrop => 18
  | .passRestarts => 19
  | .heldFrames => 20
  | .saturatedFrames => 21
  | .thinWedges => 22
  | .stepsFailed => 23

/-- The counter at an index (R156). -/
def readCounter (s : State) (k : Nat) : Nat := Table.get 0 s.alerts.counters k

/-- Storing a counter. -/
def writeCounter (k v : Nat) (s : State) : State :=
  { s with alerts := { s.alerts with counters := Table.set 0 s.alerts.counters k v } }

/-- A counter increased by `n`, stopping at 65535 (R156). -/
def bumpBy (c : Counter) (n : Nat) (s : State) : State :=
  writeCounter c.index (min (readCounter s c.index + n) 65535) s

/-- A counter increased by one (R156). -/
def bump (c : Counter) (s : State) : State := bumpBy c 1 s

/-! ### The flags of a POSITION frame -/

/-- The flags of a POSITION frame (R18, R20). -/
structure PositionFlags where
  missed : Bool := false
  held : Bool := false
  defect : Bool := false
  fault : Bool := false
  settling : Bool := false
  seeking : Bool := false
  noTarget : Bool := false
  offtrack : Bool := false
  saturated : Bool := false
  early : Bool := false
  late : Bool := false
  compensated : Bool := false
  attention : Bool := false
  deriving DecidableEq, Repr

/-- The weight of a flag at a bit position: 2^position if set. -/
def flagWeight (b : Bool) (position : Nat) : Nat := if b then 2 ^ position else 0

/-- The flags field of a POSITION frame: bit 0 MISSED to bit 12 ATTENTION, the others 0 (R20). -/
def PositionFlags.word (f : PositionFlags) : Nat :=
  flagWeight f.missed 0 + flagWeight f.held 1 + flagWeight f.defect 2 + flagWeight f.fault 3 + flagWeight f.settling 4 +
    flagWeight f.seeking 5 + flagWeight f.noTarget 6 + flagWeight f.offtrack 7 + flagWeight f.saturated 8 +
    flagWeight f.early 9 + flagWeight f.late 10 + flagWeight f.compensated 11 + flagWeight f.attention 12

end Sys2Proof.Machine
end

