-- ==== Sys2Proof/Machine/Arith.lean ====
section
/-! DEFINITION. The arithmetic the spec names: rounded and floor division, clamping (spec/00, Conventions). -/

namespace Sys2Proof.Machine

/-- Division rounded to the nearest integer, halves away from zero (spec/00, "Rounding and division"). -/
def roundDiv (x : Int) (d : Nat) : Int :=
  let m := (2 * x.natAbs + d) / (2 * d)
  if x < 0 then -(m : Int) else m

/-- Division rounded toward minus infinity (spec/00, "Rounding and division"). -/
def floorDiv (x : Int) (d : Nat) : Int := x / (d : Int)

/-- Clamping to a range (spec/00, "Clamping"). -/
def clamp (lo hi x : Int) : Int :=
  if x < lo then lo else if hi < x then hi else x

/-- Clamping to the head offsets' range (R40, R45 to R47). -/
def clampOffset (x : Int) : Int := clamp (-8192) 8191 x

/-- Clamping to the compensation entries' range (R75, R76, R88). -/
def clampEntry (x : Int) : Int := clamp (-2048) 2047 x

/-- 1 for yes, 0 for no. -/
def flagCell (b : Bool) : Int := if b then 1 else 0

end Sys2Proof.Machine
end

