-- ==== Sys2Proof/Machine/Wire.lean ====
section
/-! DEFINITION. The line's side of a frame: numbers as bytes, most significant first (R20), the CRC (R3), the checks on
arrival (R4 to R6), and the bytes of a command's frame. -/

namespace Sys2Proof.Machine

/-- A number as `n` bytes, most significant byte first (R20). -/
def be : Nat → Nat → List Byte
  | 0, _ => []
  | n + 1, v => be n (v / 256) ++ [BitVec.ofNat 8 v]

/-- A signed number as `n` bytes, two's complement, most significant byte first (R20; a number too wide keeps its low bytes:
log 22). -/
def beInt (n : Nat) (x : Int) : List Byte :=
  be n (x % (256 ^ n : Nat)).toNat

/-- The number that bytes spell, most significant byte first (R20). -/
def ofBe (bytes : List Byte) : Nat :=
  bytes.foldl (fun acc b => acc * 256 + b.toNat) 0

/-- One step of the CRC's shift register: generator x^16 + x^12 + x^5 + 1 (R3). -/
def crcBit (c : BitVec 16) : BitVec 16 :=
  bif c.msb then (c <<< 1) ^^^ 0x1021 else c <<< 1

/-- One byte entering the CRC, most significant bit first (R3). -/
def crcByte (c : BitVec 16) (b : Byte) : BitVec 16 :=
  crcBit (crcBit (crcBit (crcBit (crcBit (crcBit (crcBit (crcBit (c ^^^ (b.zeroExtend 16 <<< 8)))))))))

/-- The CRC of a byte sequence, from 0xFFFF (R3). -/
def crc16 (bytes : List Byte) : BitVec 16 :=
  bytes.foldl crcByte 0xFFFF

/-- A frame the part builds: envelope, length and CRC (R2, R3). -/
def buildFrame (kind : Byte) (body : List Byte) : Frame :=
  let covered := kind :: BitVec.ofNat 8 body.length :: body
  covered ++ be 2 (crc16 covered).toNat

/-! ### A received frame's parts (R2) -/

/-- The kind byte. -/
def frameKind (bytes : Frame) : Byte := bytes.headD 0

/-- The body bytes: all but kind, length and the two CRC bytes. -/
def frameBody (bytes : Frame) : List Byte := (bytes.drop 2).take (bytes.length - 4)

/-- Kind, length and body: what the CRC is computed over (R3). -/
def frameCovered (bytes : Frame) : List Byte := bytes.take (bytes.length - 2)

/-! ### Checks on arrival -/

/-- The two ports (R1). -/
inductive Port where
  | front
  | bench
  deriving DecidableEq, Repr

/-- The causes a check fails with (R4). -/
inductive LinkCause where
  | crc
  | length
  | misdirected
  deriving DecidableEq, Repr

/-- The body's size lies within what the kind allows (R5). -/
def bodySizeAllowed (kind : Byte) (body : List Byte) : Bool :=
  if kind = Config.kindWedge then body.length == 15
  else if kind = Config.kindHold then body.length == 7
  else if kind = Config.kindPosition then body.length == 10
  else if kind = Config.kindMgmt then
    match body[3]? with
    | some count => body.length == 6 + 4 * count.toNat
    | none => false
  else if kind = Config.kindAnswer then
    match body[6]? with
    | some count => body.length == 9 + 4 * count.toNat
    | none => false
  else if kind = Config.kindReport then
    match body[3]? with
    | some recordLength => decide (recordLength.toNat ≤ 20) && body.length == 4 + recordLength.toNat
    | none => false
  else if kind = Config.kindFestat ∨ kind = Config.kindFecmd then
    decide (1 ≤ body.length) && decide (body.length ≤ 64)
  else decide (body.length ≤ 64)

/-- A kind that may arrive at the port (R6). -/
def directionAccepted (port : Port) (kind : Byte) : Bool :=
  if kind = Config.kindWedge ∨ kind = Config.kindFestat then port == .front
  else if kind = Config.kindFecmd ∨ kind = Config.kindHold ∨ kind = Config.kindMgmt then port == .bench
  else if kind = Config.kindPosition ∨ kind = Config.kindAnswer ∨ kind = Config.kindReport then false
  else true

/-- The checks on arrival in their order: the cause of the first that fails, none if the frame is taken (R4). -/
def linkCheck (port : Port) (bytes : Frame) : Option LinkCause :=
  if bytes.length < 4 ∨ 68 < bytes.length then some .length
  else if ofBe (bytes.drop (bytes.length - 2)) ≠ (crc16 (frameCovered bytes)).toNat then some .crc
  else if ofBe ((bytes.drop 1).take 1) ≠ (frameBody bytes).length then some .length
  else if bodySizeAllowed (frameKind bytes) (frameBody bytes) = false then some .length
  else if directionAccepted port (frameKind bytes) = false then some .misdirected
  else none

end Sys2Proof.Machine

/-! ### The bytes of a command's frame (R20) -/

/-- A WEDGE frame's bytes. -/
def Sys2Proof.WedgeFrame.bytes (f : Sys2Proof.WedgeFrame) : Sys2Proof.Frame :=
  Sys2Proof.Config.kindWedge :: f.length ::
    ([f.head] ++ Sys2Proof.Machine.be 2 f.wedge.toNat ++ Sys2Proof.Machine.be 3 f.track.toNat ++
      Sys2Proof.Machine.be 2 f.a.toNat ++ Sys2Proof.Machine.be 2 f.b.toNat ++ Sys2Proof.Machine.be 2 f.c.toNat ++
      Sys2Proof.Machine.be 2 f.d.toNat ++ [f.flags] ++ Sys2Proof.Machine.be 2 f.crc.toNat)

/-- A HOLD frame's bytes. -/
def Sys2Proof.HoldFrame.bytes (f : Sys2Proof.HoldFrame) : Sys2Proof.Frame :=
  Sys2Proof.Config.kindHold :: f.length ::
    ([f.head] ++ Sys2Proof.Machine.be 3 f.track.toNat ++ Sys2Proof.Machine.be 2 f.offset.toNat ++ [f.flags] ++
      Sys2Proof.Machine.be 2 f.crc.toNat)

/-- A FESTAT or FECMD frame's bytes. -/
def Sys2Proof.OpaqueFrame.bytes (kind : Sys2Proof.Byte) (f : Sys2Proof.OpaqueFrame) : Sys2Proof.Frame :=
  kind :: f.length :: (f.body ++ Sys2Proof.Machine.be 2 f.crc.toNat)

/-- A MGMT frame's bytes, under its request and object codes. -/
def Sys2Proof.Request.bytes (code object : Sys2Proof.Byte) (r : Sys2Proof.Request) : Sys2Proof.Frame :=
  Sys2Proof.Config.kindMgmt :: r.length ::
    ([code, r.token, object, r.count] ++ Sys2Proof.Machine.be 2 r.index.toNat ++
      r.values.flatMap (fun v => Sys2Proof.Machine.be 4 v.toNat) ++ Sys2Proof.Machine.be 2 r.crc.toNat)
end

