-- ==== Sys2Proof/Machine/Operands.lean ====
section
/-! DEFINITION. What the blocks read from a taken frame: WEDGE (R15), HOLD (R52), MGMT (R20, R144), from a command's typed
fields and from the bytes of a frame that came through a row of unknown kind. -/

namespace Sys2Proof.Machine

/-- The fields of a WEDGE frame as every block reads them (R15). -/
structure WedgeRead where
  head : Nat
  wedge : Nat
  track : Nat
  a : Nat
  b : Nat
  c : Nat
  d : Nat
  sync : Bool
  gray : Bool
  index : Bool
  deriving DecidableEq, Repr

/-- Reading a WEDGE frame: the track loses its upper 4 bits, each amplitude is clamped to 0..4095, flag bits 3 to 7 are
ignored (R15). -/
def readWedge (f : WedgeFrame) : WedgeRead :=
  { head := f.head.toNat
    wedge := f.wedge.toNat
    track := f.track.toNat % 2 ^ 20
    a := min f.a.toNat 4095
    b := min f.b.toNat 4095
    c := min f.c.toNat 4095
    d := min f.d.toNat 4095
    sync := f.flags.getLsbD 0
    gray := f.flags.getLsbD 1
    index := f.flags.getLsbD 2 }

/-- The fields of a HOLD frame as the Context Store reads them (R52). -/
structure HoldRead where
  head : Nat
  track : Nat
  offset : Int
  seek : Bool
  deriving DecidableEq, Repr

/-- Reading a HOLD frame: the track loses its upper 4 bits, the offset is clamped to -512..+511, flag bits 1 to 7 are
ignored (R52). -/
def readHold (f : HoldFrame) : HoldRead :=
  { head := f.head.toNat
    track := f.track.toNat % 2 ^ 20
    offset := clamp (-512) 511 f.offset.toInt
    seek := f.flags.getLsbD 0 }

/-- A management request as the Management Unit takes it (R144). -/
structure Mgmt where
  code : Byte
  token : Byte
  object : Byte
  count : Byte
  index : Nat
  values : List Int
  deriving DecidableEq, Repr

/-- The request a MGMT frame's fields give: the index unsigned, each value signed 32-bit (R20). -/
def readRequest (code object : Byte) (r : Request) : Mgmt :=
  { code := code
    token := r.token
    object := object
    count := r.count
    index := r.index.toNat
    values := r.values.map BitVec.toInt }

/-! ### Frames from bytes -/

/-- `n` bytes of a frame from byte `k` of its body. -/
def bodyField (bytes : Frame) (k n : Nat) : Nat := ofBe (((frameBody bytes).drop k).take n)

/-- The CRC bytes of a frame as one number. -/
def frameCrc (bytes : Frame) : BitVec 16 := BitVec.ofNat 16 (ofBe (bytes.drop (bytes.length - 2)))

/-- The WEDGE frame that bytes spell (R20). -/
def wedgeFromBytes (bytes : Frame) : WedgeFrame :=
  { length := BitVec.ofNat 8 (ofBe ((bytes.drop 1).take 1))
    head := BitVec.ofNat 8 (bodyField bytes 0 1)
    wedge := BitVec.ofNat 16 (bodyField bytes 1 2)
    track := BitVec.ofNat 24 (bodyField bytes 3 3)
    a := BitVec.ofNat 16 (bodyField bytes 6 2)
    b := BitVec.ofNat 16 (bodyField bytes 8 2)
    c := BitVec.ofNat 16 (bodyField bytes 10 2)
    d := BitVec.ofNat 16 (bodyField bytes 12 2)
    flags := BitVec.ofNat 8 (bodyField bytes 14 1)
    crc := frameCrc bytes }

/-- The HOLD frame that bytes spell (R20). -/
def holdFromBytes (bytes : Frame) : HoldFrame :=
  { length := BitVec.ofNat 8 (ofBe ((bytes.drop 1).take 1))
    head := BitVec.ofNat 8 (bodyField bytes 0 1)
    track := BitVec.ofNat 24 (bodyField bytes 1 3)
    offset := BitVec.ofNat 16 (bodyField bytes 4 2)
    flags := BitVec.ofNat 8 (bodyField bytes 6 1)
    crc := frameCrc bytes }

/-- The 32-bit values that bytes spell, four bytes each (R20). -/
def valuesFromBytes : List Byte → List (BitVec 32)
  | b₁ :: b₂ :: b₃ :: b₄ :: rest => BitVec.ofNat 32 (ofBe [b₁, b₂, b₃, b₄]) :: valuesFromBytes rest
  | _ => []

/-- The request code of a MGMT frame (R20). -/
def requestCode (bytes : Frame) : Byte := BitVec.ofNat 8 (bodyField bytes 0 1)

/-- The object code of a MGMT frame (R20). -/
def requestObject (bytes : Frame) : Byte := BitVec.ofNat 8 (bodyField bytes 2 1)

/-- The other fields of the MGMT frame that bytes spell (R20). -/
def requestFromBytes (bytes : Frame) : Request :=
  { length := BitVec.ofNat 8 (ofBe ((bytes.drop 1).take 1))
    token := BitVec.ofNat 8 (bodyField bytes 1 1)
    count := BitVec.ofNat 8 (bodyField bytes 3 1)
    index := BitVec.ofNat 16 (bodyField bytes 4 2)
    values := valuesFromBytes ((frameBody bytes).drop 6)
    crc := frameCrc bytes }

end Sys2Proof.Machine
end

