-- ==== Sys2Proof/Machine/Ops.lean ====
section
/-! DEFINITION. The shared operations on the two ports: link failures and the latch (R7 to R9), the front-port transmit FIFO
(R12, R14), the four queues of the Output Scheduler, their arbitration and the report budget (R134 to R142). -/

namespace Sys2Proof.Machine

/-! ### Link failures -/

/-- The front-port counter of a cause (R4). -/
def LinkCause.frontCounter : LinkCause → Counter
  | .crc => .frontCrc
  | .length => .frontLength
  | .misdirected => .frontMisdirected

/-- The bench-port counter of a cause (R4). -/
def LinkCause.benchCounter : LinkCause → Counter
  | .crc => .benchCrc
  | .length => .benchLength
  | .misdirected => .benchMisdirected

/-- Setting a check's cause in the latch (R9). -/
def Latch.setCause (l : Latch) : LinkCause → Latch
  | .crc => { l with crc := true }
  | .length => { l with length := true }
  | .misdirected => { l with misdirected := true }

/-- The link summary byte: bit 0 CRC, 1 LENGTH, 2 MISDIRECTED, 3 FIFO_DROP (R20). -/
def Latch.summary (l : Latch) : Nat :=
  flagWeight l.crc 0 + flagWeight l.length 1 + flagWeight l.misdirected 2 + flagWeight l.fifoDrop 3

/-- Changing the latch. -/
def setLatch (l : Latch) (s : State) : State := { s with link := { s.link with latch := l } }

/-- A frame that fails a check at the front port: counted, alert raised, dropped (R7). -/
def frontLinkError (cause : LinkCause) (s : State) : State :=
  raise .frontLinkError (bump cause.frontCounter s)

/-- A frame that fails a check at the bench port: counted, alert raised, cause latched, dropped (R8). -/
def benchLinkError (cause : LinkCause) (s : State) : State :=
  setLatch (s.link.latch.setCause cause) (raise .benchLinkError (bump cause.benchCounter s))

/-- A frame's checks at the front port, and `take` if it passes them (R4, R7). -/
def frontChecked (bytes : Frame) (take : State → State) (s : State) : State :=
  match linkCheck .front bytes with
  | some cause => frontLinkError cause s
  | none => take s

/-- A frame's checks at the bench port, and `take` if it passes them (R4, R8). -/
def benchChecked (bytes : Frame) (take : State → State) (s : State) : State :=
  match linkCheck .bench bytes with
  | some cause => benchLinkError cause s
  | none => take s

/-! ### The front-port transmit FIFO -/

/-- A frame offered to the front-port transmit FIFO: admitted behind the newest, and sent at once if the transmitter is not
sending (log 21); or dropped, counted, latched as FIFO_DROP and reported as a bench-port error (R12, R14). -/
def offerFifo (f : Frame) (s : State) : State :=
  if s.link.fifo.length < Config.fifoCapacity then
    { s with link := { s.link with fifo := s.link.fifo ++ [f], frontSending := true } }
  else
    raise .benchLinkError (setLatch { s.link.latch with fifoDrop := true } (bump .frontTransmitDrop s))

/-- The end of a front-port transmission: the frame leaves the FIFO, and the oldest still waiting is begun (R14). -/
def frontTransmitEnd (s : State) : State :=
  if s.link.frontSending then
    { s with link := { s.link with fifo := s.link.fifo.tail, frontSending := !s.link.fifo.tail.isEmpty } }
  else s

/-! ### Arbitration -/

/-- The classes that share the round (R142). -/
inductive RoundClass where
  | answer
  | report
  | status
  deriving DecidableEq, Repr

/-- The class a round position names (R142). -/
def roundClass (position : Nat) : RoundClass :=
  if position < 4 then .answer else if position < 6 then .report else .status

/-- The queue of a class. -/
def RoundClass.queue (c : RoundClass) (o : Output) : List Frame :=
  match c with
  | .answer => o.answer
  | .report => o.report
  | .status => o.status

/-- The class the round grants: the one at the position if it has a frame, else the first of ANSWER, REPORT, STATUS that
has one (R142). -/
def roundChoice (o : Output) : Option RoundClass :=
  if (roundClass o.round).queue o ≠ [] then some (roundClass o.round)
  else if o.answer ≠ [] then some .answer
  else if o.report ≠ [] then some .report
  else if o.status ≠ [] then some .status
  else none

/-- The oldest frame of a class granted to the transmitter; the round position advances (R134, R142). -/
def roundGrant (c : RoundClass) (o : Output) : Output :=
  let o' := { o with round := if o.round < 6 then o.round + 1 else 0, sending := (c.queue o).head? }
  match c with
  | .answer => { o' with answer := o.answer.tail }
  | .report => { o' with report := o.report.tail }
  | .status => { o' with status := o.status.tail }

/-- A grant: the oldest LOOP frame, the round position unmoved; else by the round; else none (R141, R142). -/
def grantOutput (o : Output) : Output :=
  match o.loop with
  | f :: rest => { o with loop := rest, sending := some f }
  | [] =>
    match roundChoice o with
    | some c => roundGrant c o
    | none => o

/-- The grant made at an admission while the transmitter is free (R141). -/
def admitted (o : Output) : Output := if o.sending.isNone then grantOutput o else o

/-- The end of a bench-port transmission: the transmitter becomes free, and a grant is made (R141). -/
def benchTransmitEnd (s : State) : State :=
  if s.out.sending.isSome then { s with out := grantOutput { s.out with sending := none } } else s

/-! ### Admission -/

/-- A frame offered to the LOOP class: a full queue discards its oldest frame, which is counted (R135). -/
def offerLoop (f : Frame) (s : State) : State :=
  let s' := if s.out.loop.length < Config.loopCapacity then s
    else bump .loopDrop { s with out := { s.out with loop := s.out.loop.tail } }
  { s' with out := admitted { s'.out with loop := s'.out.loop ++ [f] } }

/-- The ANSWER queue has room for the answer to a request (R136). -/
def answerRoom (s : State) : Bool := decide (s.out.answer.length < Config.answerCapacity)

/-- An answer admitted behind the newest (R136). -/
def offerAnswer (f : Frame) (s : State) : State :=
  { s with out := admitted { s.out with answer := s.out.answer ++ [f] } }

/-- A frame offered to the STATUS class: admitted, or dropped and counted (R137). -/
def offerStatus (f : Frame) (s : State) : State :=
  if s.out.status.length < Config.statusCapacity then
    { s with out := admitted { s.out with status := s.out.status ++ [f] } }
  else bump .statusDrop s

/-- A REPORT frame: report kind, revolution stamp, record length, record (R19, R20). -/
def reportFrame (kind : Nat) (stamp : BitVec 16) (record : List Byte) : Frame :=
  buildFrame Config.kindReport (be 1 kind ++ be 2 stamp.toNat ++ be 1 record.length ++ record)

/-- A report offered to the REPORT class, with the stamp of the moment: admitted, or dropped, counted and raised as
REPORT_OVERFLOW (R19, R138). -/
def offerReport (kind : Nat) (record : List Byte) (s : State) : State :=
  if s.out.report.length < Config.reportCapacity then
    { s with out := admitted { s.out with report := s.out.report ++ [reportFrame kind s.clock.stamp record] } }
  else raise .reportOverflow (bump .reportDrop s)

/-! ### The report budget -/

/-- The budget a report limit sets: 0 sets UNLIMITED (R139). -/
def budgetOf (limit : Nat) : Budget := if limit = 0 then .unlimited else .left limit

/-- The budget refreshed from the report limit as it stands (R139, R140). -/
def refreshBudget (s : State) : State :=
  { s with out := { s.out with budget := budgetOf s.settings.reportLimit } }

/-- The budget refresh timer started or stopped (R140). -/
def setRefreshTimer (t : Option Nat) (s : State) : State :=
  { s with out := { s.out with refreshTimer := t } }

/-- A DEFECT_NOTICE offered: the budget is tested first, and a notice it refuses is discarded and counted (R139). -/
def offerDefectNotice (record : List Byte) (s : State) : State :=
  match s.out.budget with
  | .unlimited => offerReport 3 record s
  | .left 0 => bump .budgetDrop s
  | .left (n + 1) => offerReport 3 record { s with out := { s.out with budget := .left n } }

/-- The expiry of the budget refresh timer: the budget is refreshed and the timer started again (R140). -/
def refreshTimerExpiry (s : State) : State :=
  if s.out.refreshTimer.isSome then setRefreshTimer (some Config.refreshMs) (refreshBudget s) else s

end Sys2Proof.Machine
end

