-- ==== Sys2Proof/Machine/HeadTable.lean ====
section
/-! DEFINITION. The Head Table and the contexts as stored: reading and writing a record, a point, a context; the effective
offset and its writes (R40 to R48); eligibility (R16). -/

namespace Sys2Proof.Machine

/-- The record of a head (R40). -/
def headRec (s : State) (h : Nat) : HeadRec := Table.get {} s.headRecs h

/-- Storing the record of a head. -/
def setHeadRec (h : Nat) (r : HeadRec) (s : State) : State := { s with headRecs := Table.set {} s.headRecs h r }

/-- Point `k` of a head's linearization table (R44). -/
def linPoint (s : State) (h k : Nat) : Int := Table.get 0 s.linTab (h * Config.linPoints + k)

/-- The context of a head (R48). -/
def headContext (s : State) (h : Nat) : HeadContext := Table.get {} s.contexts h

/-- Storing the context of a head. -/
def setHeadContext (h : Nat) (c : HeadContext) (s : State) : State := { s with contexts := Table.set {} s.contexts h c }

/-- The compensation entry R[h][w] (R75). -/
def runoutEntry (s : State) (h w : Nat) : Int := Table.get 0 s.runout (h * Config.wedgeCells + w)

/-- The record of a plan step (R117). -/
def planStep (s : State) (n : Nat) : PlanStep := Table.get {} s.steps n

/-- The head's WEDGE frames at the wedge are eligible for wedge handling (R16). -/
def eligible (s : State) (head wedge : Nat) : Bool :=
  decide (head < s.settings.headCount) && (headRec s head).enabled && decide (wedge < s.settings.wedges)

/-- The head's tracking condition: source TRACK, and a reference head that is OWN, valid and another head (R45). -/
def tracking (s : State) (h : Nat) : Bool :=
  let r := headRec s h
  let ref := headRec s r.refHead
  r.source == .track && ref.source == .own && ref.offsetValid && r.refHead != h

/-- The effective offset o_eff(h) (R45). -/
def effectiveOffset (s : State) (h : Nat) : Int :=
  let r := headRec s h
  if tracking s h then clampOffset ((headRec s r.refHead).ownOffset + r.offsetDiff) else r.ownOffset

/-- The measured offset `v` of a PASSED OFFSET step written to the head (R46). -/
def writeMeasuredOffset (h : Nat) (v : Int) (s : State) : State :=
  let r := headRec s h
  if tracking s h then
    setHeadRec h { r with offsetDiff := clampOffset (v - (headRec s r.refHead).ownOffset), offsetValid := true } s
  else setHeadRec h { r with ownOffset := clampOffset v, offsetValid := true } s

/-- The mean fold `d` of an applied pass added to the head's offset (R47). -/
def foldOffset (h : Nat) (d : Int) (s : State) : State :=
  let r := headRec s h
  if tracking s h then setHeadRec h { r with offsetDiff := clampOffset (r.offsetDiff + d), offsetValid := true } s
  else setHeadRec h { r with ownOffset := clampOffset (r.ownOffset + d), offsetValid := true } s

end Sys2Proof.Machine
end

