-- ==== Sys2Proof/Machine/RunoutEngine.lean ====
section
/-! DEFINITION. The Runout Engine: binding, passes, samples, the solve, its apply (R75 to R93). -/

namespace Sys2Proof.Machine

/-- Changing the learning state. -/
def setEngine (e : Engine) (s : State) : State := { s with engine := e }

/-- The engine is bound to the head (R78). -/
def boundTo (s : State) (h : Nat) : Bool :=
  match s.engine.binding with
  | some b => b.head == h
  | none => false

/-- The accumulator cell of a wedge (R78). -/
def engineCell (s : State) (w : Nat) : Cell := Table.get {} s.engine.cells w

/-- Unbinding: no binding, no pass, no pending solve, every cell cleared (R79). -/
def unbind (s : State) : State := setEngine {} s

/-- The engine's answer to a notice of R85: a running accumulation is discarded, the pass returns to READY under the same
number, and the discard is counted; any other pass state is left as it is (R85). -/
def discardAccumulation (s : State) : State :=
  if s.engine.pass = .accumulate then
    bump .passRestarts (setEngine { s.engine with cells := [], revs := 0, pass := .ready } s)
  else s

/-! ### Binding and beginning a pass -/

/-- The pass parameters of a LEARN step: M = 2^m, limit A above 2047 taken as 2047 (R79). -/
def passParams (p : PlanStep) : PassParams :=
  { revolutions := 2 ^ p.m, passes := p.passes, gain := p.gain, limit := min p.limitA 2047, fold := p.fold }

/-- The current step is an ACTIVE LEARN step of the head; its number if so (R81). -/
def activeLearnStep (s : State) (h : Nat) : Option Nat :=
  match s.plan.current, s.plan.sub with
  | some n, some .active =>
    if (planStep s n).phase = .learn ∧ (planStep s n).head = h then some n else none
  | _, _ => none

/-- A pass begins: the accumulator is first bound if it is not, the cells are cleared, and the engine accumulates
(R79, R81). -/
def beginPass (h step : Nat) (s : State) : State :=
  let e := if s.engine.pass = .unbound then
      { s.engine with
        binding := some { head := h, step := step }
        params := some (passParams (planStep s step))
        passNumber := 1 }
    else s.engine
  setEngine { e with cells := [], revs := 0, pass := .accumulate } s

/-! ### The solve (R87, R88) -/

/-- Least count of an updated wedge: ceil(M / 2) (R87). -/
def updateThreshold (revolutions : Nat) : Nat := (revolutions + 1) / 2

/-- The correction of a wedge that is updated; none if it is thin (R87). -/
def passCorrection (p : PassParams) (c : Cell) : Option Int :=
  if updateThreshold p.revolutions ≤ c.count then some (roundDiv (c.sum * p.gain) (16 * c.count)) else none

/-- The corrections of the wedges below W, in wedge order (R87). -/
def passCorrections (p : PassParams) (s : State) : List (Option Int) :=
  (List.range s.settings.wedges).map fun w => passCorrection p (engineCell s w)

/-- The mean fold D (R88). -/
def meanFold (p : PassParams) (deltas : List (Option Int)) (wedges : Nat) : Int :=
  if p.fold then roundDiv ((deltas.map fun d => d.getD 0).sum) wedges else 0

/-- The new entry of a wedge before its clamp: R + Δ - D (R88). -/
def rawEntry (entry : Int) (delta : Option Int) (fold : Int) : Int := entry + delta.getD 0 - fold

/-- The pending solve of the pass just ended, from the closed cells and the entries as they stand (R87, R88). -/
def computeSolve (h : Nat) (p : PassParams) (s : State) : PendingSolve :=
  let deltas := passCorrections p s
  let d := meanFold p deltas s.settings.wedges
  let raws := (List.range s.settings.wedges).map fun w => rawEntry (runoutEntry s h w) (passCorrection p (engineCell s w)) d
  { entries := raws.map clampEntry
    meanFold := d
    updated := deltas.countP Option.isSome
    thin := deltas.countP Option.isNone
    saturated := raws.countP fun x => decide (clampEntry x ≠ x)
    largest := (deltas.filterMap id).foldl (fun acc delta => max acc (delta - d).natAbs) 0 }

/-- A completed revolution event of the bound head counted in ACCUMULATE: at the M-th the cells close, the solve is
computed and the engine enters SOLVE (R82). -/
def countPassRevolution (s : State) : State :=
  match s.engine.binding, s.engine.params with
  | some b, some p =>
    let revs := s.engine.revs + 1
    if p.revolutions ≤ revs then
      setEngine { s.engine with revs := revs, pass := .solve, pendingSolve := some (computeSolve b.head p s) } s
    else setEngine { s.engine with revs := revs } s
  | _, _ => s

/-! ### Samples -/

/-- A sample added to the cell of a wedge (R83). -/
def addSample (w : Nat) (x : Int) (s : State) : State :=
  let c := engineCell s w
  setEngine { s.engine with cells := Table.set {} s.engine.cells w { sum := c.sum + x, count := c.count + 1 } } s

/-- The greatest number of samples a cell of the pass may take: M (R83). -/
def cellLimit (s : State) : Nat :=
  match s.engine.params with
  | some p => p.revolutions
  | none => 0

/-! ### The apply (R89, R90) -/

/-- What follows an apply (R90): the step ends, or a further pass. -/
inductive AfterApply where
  | converged
  | completed
  | further
  deriving DecidableEq, Repr

/-- The continuation decided from the figures and the parameters: the first case that holds (R90). -/
def afterApply (p : PassParams) (passNumber : Nat) (v : PendingSolve) : AfterApply :=
  if 0 < p.limit ∧ 0 < v.updated ∧ v.largest ≤ p.limit then .converged
  else if passNumber = p.passes then .completed
  else .further

/-- The record of a PASS_SUMMARY (R20, R93). -/
def passSummary (b : Binding) (passNumber : Nat) (v : PendingSolve) : List Byte :=
  be 1 b.step ++ be 1 b.head ++ be 1 passNumber ++ be 2 v.updated ++ be 2 v.thin ++ be 2 v.saturated ++
    beInt 2 v.meanFold ++ be 2 v.largest

/-- The new entries written for every wedge below W (R89). -/
def writeEntries (h : Nat) (entries : List Int) (s : State) : State :=
  { s with runout := Table.setAll 0 s.runout (h * Config.wedgeCells) entries }

/-- The LEARN tallies after an apply (R130). -/
def tallyApply (v : PendingSolve) (s : State) : State :=
  { s with plan := { s.plan with tallies :=
      { applied := s.plan.tallies.applied + 1
        largest := v.largest
        foldTotal := s.plan.tallies.foldTotal + v.meanFold } } }

/-- The apply of the pending solve at an index frame of the bound head, stage 3 of R80: entries, fold, thin wedges counter,
PASS_SUMMARY, removal of the solve, and the continuation. In the further case the pass number rises and the engine stands
READY with no revolution counted (log 14); whether the next pass begins at this frame is decided after stage 4
(R89, R90). -/
def applySolve (s : State) : State × Option AfterApply :=
  match s.engine.binding, s.engine.params, s.engine.pendingSolve with
  | some b, some p, some v =>
    let s₁ := writeEntries b.head v.entries s
    let s₂ := if p.fold then foldOffset b.head v.meanFold s₁ else s₁
    let s₃ := bumpBy .thinWedges v.thin s₂
    let s₄ := offerReport 2 (passSummary b s.engine.passNumber v) s₃
    let s₅ := tallyApply v s₄
    let next := afterApply p s.engine.passNumber v
    let number := if next = .further then s.engine.passNumber + 1 else s.engine.passNumber
    (setEngine { s.engine with pendingSolve := none, pass := .ready, passNumber := number, revs := 0 } s₅, some next)
  | _, _, _ => (s, none)

/-- Stage 3 of R80 for an index frame of head `h`. -/
def applyStage (h : Nat) (index : Bool) (s : State) : State × Option AfterApply :=
  if index && boundTo s h && s.engine.pass == .solve then applySolve s else (s, none)

/-- Stage 5 of R80 for a frame of head `h`: a revolution is counted in ACCUMULATE at a completed revolution event, or a pass
begins in UNBOUND or READY, at an event or at an apply that is followed by a further pass (R81, R82, R90). -/
def engineStage (h : Nat) (event further : Bool) (s : State) : State :=
  match s.engine.pass with
  | .accumulate => if event && boundTo s h then countPassRevolution s else s
  | .solve => s
  | .unbound | .ready =>
    if event || further then
      match activeLearnStep s h with
      | some n => beginPass h n s
      | none => s
    else s

end Sys2Proof.Machine
end

