-- ==== Sys2Proof/Machine/PlanController.lean ====
section
/-! DEFINITION. The Plan Controller: starting and ending a plan, entering and ending a step, WAITING and ACTIVE, the phases
(R117 to R133). -/

namespace Sys2Proof.Machine

/-- Changing the plan's running state. -/
def setPlan (p : Plan) (s : State) : State := { s with plan := p }

/-! ### Codes (R20, R117) -/

/-- Outcome of a step (R123). -/
inductive StepOutcome where
  | passed
  | converged
  | completed
  | failedThin
  | failedLimit
  | timeoutSettle
  | timeoutWait
  | aborted
  deriving DecidableEq, Repr

/-- The code of an outcome in a STEP_RESULT (R20). -/
def StepOutcome.code : StepOutcome → Nat
  | .passed => 1
  | .converged => 2
  | .completed => 3
  | .failedThin => 4
  | .failedLimit => 5
  | .timeoutSettle => 6
  | .timeoutWait => 7
  | .aborted => 8

/-- The outcomes that are failures (R123). -/
def StepOutcome.failure : StepOutcome → Bool
  | .failedThin | .failedLimit | .timeoutSettle | .timeoutWait => true
  | .passed | .converged | .completed | .aborted => false

/-- Why a plan ended (R119, R123, R124). -/
inductive PlanReason where
  | complete
  | stopped
  | failed
  deriving DecidableEq, Repr

/-- The code of a reason in a PLAN_END (R20). -/
def PlanReason.code : PlanReason → Nat
  | .complete => 1
  | .stopped => 2
  | .failed => 3

/-- The code of a phase (R20, R117). -/
def Phase.code : Phase → Nat
  | .none => 0
  | .settle => 1
  | .offset => 2
  | .learn => 3
  | .verify => 4

/-! ### WAITING and ACTIVE -/

/-- The wait timer as a step starts it: a wait timeout of 0 leaves it stopped (R120). -/
def waitTimerOf (timeout : Nat) : Option Nat := if timeout = 0 then none else some timeout

/-- Entering a step: current, WAITING, registers and tallies cleared, wait timer started (R120). -/
def enterStep (n : Nat) (s : State) : State :=
  setPlan { s.plan with
    current := some n
    sub := some .waiting
    regs := {}
    tallies := {}
    waitTimer := waitTimerOf (planStep s n).timeout } s

/-- The return of an ACTIVE step to WAITING: registers cleared, wait timer started again, LEARN tallies kept; nothing
happens to a WAITING step (R122). -/
def returnToWaiting (s : State) : State :=
  match s.plan.current, s.plan.sub with
  | some n, some .active =>
    setPlan { s.plan with sub := some .waiting, regs := {}, waitTimer := waitTimerOf (planStep s n).timeout } s
  | _, _ => s

/-- The current step's head (R121). -/
def stepHead (s : State) : Option Nat := s.plan.current.map fun n => (planStep s n).head

/-- The conditions under which a WAITING step becomes ACTIVE at a completed revolution event of head `h`, as they stand at
stage 4 (R121). The settle count is read after the frame's own judgement: an index frame that takes it from 1 to 0 satisfies
that condition (R56). DESIGN CHOICE: the exception of R57 and R86 is a further condition, which R121 does not list: at the
index frame directly after a HOLD without SEEK that changes the target no step becomes ACTIVE, unless S is 0 (log 23). -/
def activationHolds (s : State) (h : Nat) : Bool :=
  let c := headContext s h
  stepHead s == some h && s.activeHead == some h && s.clock.state == .locked && c.targetValid && !c.seeking &&
    c.settle == 0 && !c.retargeted && decide (h < s.settings.headCount) && (headRec s h).enabled

/-- A completed revolution event of head `h` judged for activation: registers cleared, wait timer stopped, tallies kept
(R121). -/
def tryActivate (h : Nat) (s : State) : State :=
  if s.plan.sub = some .waiting ∧ activationHolds s h = true then
    setPlan { s.plan with sub := some .active, regs := {}, waitTimer := none } s
  else s

/-! ### Step results -/

/-- The mean |E_out| of a VERIFY measurement (R129). -/
def verifyMean (r : Registers) : Nat := if r.verifyCount = 0 then 0 else r.verifySum / r.verifyCount

/-- The measured offset of an OFFSET measurement (R128). -/
def measuredOffset (r : Registers) : Int := roundDiv r.offsetSum r.offsetCount

/-- The three figures of a STEP_RESULT, from the registers and tallies as they stand (R131). The old offset of a PASSED
OFFSET step is the one recorded before the write; every other outcome reads the effective offset at the step's end. -/
def stepFigures (n : Nat) (outcome : StepOutcome) (s : State) : Int × Int × Int :=
  let p := planStep s n
  let r := s.plan.regs
  match p.phase with
  | .none => (0, 0, 0)
  | .settle => (r.settleUsed, r.settleTrips, r.settleClean)
  | .offset =>
    if outcome = .passed then (measuredOffset r, r.offsetOld, r.offsetCount)
    else (0, effectiveOffset s p.head, r.offsetCount)
  | .learn => (s.plan.tallies.applied, s.plan.tallies.largest, s.plan.tallies.foldTotal)
  | .verify => (r.verifyGreatest, verifyMean r, r.verifyCount)

/-- The record of a STEP_RESULT (R20, R131). -/
def stepResult (n : Nat) (outcome : StepOutcome) (s : State) : List Byte :=
  let f := stepFigures n outcome s
  be 1 n ++ be 1 (planStep s n).phase.code ++ be 1 (planStep s n).head ++ be 1 outcome.code ++
    beInt 4 f.1 ++ beInt 4 f.2.1 ++ beInt 4 f.2.2

/-- The record of a PLAN_END; the last step reads 0 when no step ended (R20). -/
def planEndRecord (reason : PlanReason) (ended failed : Nat) (last : Option Nat) : List Byte :=
  be 1 reason.code ++ be 1 ended ++ be 1 failed ++ be 1 (last.getD 0)

/-! ### Step ends and plan ends -/

/-- The plan going to ENDED: PLAN_END report and alert (R123). Registers and tallies stay (log 14). -/
def endPlan (reason : PlanReason) (s : State) : State :=
  let s₁ := setPlan { s.plan with state := .ended, current := none, sub := none, waitTimer := none } s
  raise .planEnd (offerReport 6 (planEndRecord reason s.plan.ended s.plan.failed s.plan.last) s₁)

/-- The advance after a step's end (R123, R124). -/
def advance (n : Nat) (outcome : StepOutcome) (s : State) : State :=
  if outcome = .aborted then endPlan .stopped s
  else if outcome.failure = true ∧ (planStep s n).onFail = .stop then endPlan .failed s
  else if n = 31 ∨ (planStep s (n + 1)).phase = .none then endPlan .complete s
  else enterStep (n + 1) s

/-- The tallies of the run after a step's end (R123). -/
def tallyStep (n : Nat) (outcome : StepOutcome) (s : State) : State :=
  setPlan { s.plan with
    ended := s.plan.ended + 1
    failed := if outcome.failure then s.plan.failed + 1 else s.plan.failed
    last := some n } s

/-- The engine's part in a step's end: it unbinds if this was the bound step (R79, R91, R123). -/
def unbindStep (n : Nat) (s : State) : State :=
  match s.engine.binding with
  | some b => if b.step = n then unbind s else s
  | none => s

/-- The end of the current step `n`: STEP_RESULT, alert, counter and tallies, timer and unbinding, advance, in this order
(R123). -/
def endStep (n : Nat) (outcome : StepOutcome) (s : State) : State :=
  let s₁ := offerReport 5 (stepResult n outcome s) s
  let s₂ := if outcome.failure then bump .stepsFailed (raise .stepFailed s₁) else raise .stepDone s₁
  let s₃ := tallyStep n outcome s₂
  let s₄ := unbindStep n (setPlan { s₃.plan with waitTimer := none } s₃)
  advance n outcome s₄

/-! ### The phases -/

/-- The limit A of a SETTLE step: 0 taken as 1, above 255 as 255 (R117). -/
def settleLimit (a : Nat) : Nat := if a = 0 then 1 else min a 255

/-- M, the revolutions of a measurement (R117). -/
def stepRevolutions (p : PlanStep) : Nat := 2 ^ p.m

/-- A SETTLE step closes a revolution, and may end (R126). -/
def closeSettle (n : Nat) (p : PlanStep) (s : State) : State :=
  let r := s.plan.regs
  let used := r.settleUsed + 1
  let clean := if r.settleMark then 0 else r.settleClean + 1
  let s₁ := setPlan { s.plan with regs :=
    { r with settleUsed := used, settleClean := clean, settleMark := false } } s
  if settleLimit p.limitA ≤ clean then endStep n .passed s₁
  else if 4 * settleLimit p.limitA ≤ used then endStep n .timeoutSettle s₁
  else s₁

/-- An OFFSET step counts a revolution; at the M-th the measurement ends: thin, or the measured offset is written (R128). -/
def closeOffset (n : Nat) (p : PlanStep) (s : State) : State :=
  let r := s.plan.regs
  let s₁ := setPlan { s.plan with regs := { r with offsetRevs := r.offsetRevs + 1 } } s
  if stepRevolutions p ≤ r.offsetRevs + 1 then
    let s₂ := setPlan { s₁.plan with regs := { s₁.plan.regs with offsetOld := effectiveOffset s p.head } } s₁
    if s.settings.wedges * stepRevolutions p ≤ 2 * r.offsetCount then
      endStep n .passed (writeMeasuredOffset p.head (measuredOffset r) s₂)
    else endStep n .failedThin s₂
  else s₁

/-- The outcome of a VERIFY measurement: the first condition that holds (R129). -/
def verifyOutcome (p : PlanStep) (wedges : Nat) (r : Registers) : StepOutcome :=
  if 2 * r.verifyCount < wedges * stepRevolutions p then .failedThin
  else if p.limitA < r.verifyGreatest ∨ p.limitB < verifyMean r then .failedLimit
  else .passed

/-- A VERIFY step counts a revolution; at the M-th the measurement ends (R129). -/
def closeVerify (n : Nat) (p : PlanStep) (s : State) : State :=
  let r := s.plan.regs
  let s₁ := setPlan { s.plan with regs := { r with verifyRevs := r.verifyRevs + 1 } } s
  if stepRevolutions p ≤ r.verifyRevs + 1 then endStep n (verifyOutcome p s.settings.wedges r) s₁ else s₁

/-- A completed revolution event of head `h` closes a revolution of an ACTIVE step on that head (R126, R128, R129). -/
def closeRevolution (h : Nat) (s : State) : State :=
  match s.plan.current, s.plan.sub with
  | some n, some .active =>
    let p := planStep s n
    if p.head = h then
      match p.phase with
      | .settle => closeSettle n p s
      | .offset => closeOffset n p s
      | .verify => closeVerify n p s
      | .none | .learn => s
    else s
  | _, _ => s

/-- The end of the LEARN step whose outcome the apply of stage 3 decided (R90, R130). -/
def endLearn (after : Option AfterApply) (s : State) : State :=
  match after, s.plan.current with
  | some .converged, some n => endStep n .converged s
  | some .completed, some n => endStep n .completed s
  | _, _ => s

/-- Stage 4 of R80 for a frame of head `h`: the end of a LEARN step decided at stage 3, or the closing of a revolution; then,
at an event, activation, of the step just entered too (R121). -/
def planStage (h : Nat) (event : Bool) (after : Option AfterApply) (s : State) : State :=
  let decided := after == some .converged || after == some .completed
  let s₁ := if decided then endLearn after s else if event then closeRevolution h s else s
  if event then tryActivate h s₁ else s₁

/-! ### Contributions at stage 6 -/

/-- What the Demodulator and the monitor hand to the Plan Controller for a frame (R33, R115, R127). -/
structure Contribution where
  head : Nat
  residual : Int
  offset : Int
  output : Int
  lockedOnTime : Bool
  quietFrame : Bool
  tripped : Bool
  deriving DecidableEq, Repr

/-- The conditions OFFSET and VERIFY share, less the count's (R127): locked on time; not SETTLING, SEEKING or NOTARGET
(`quietFrame`); learn enable. The frame is demodulated, or there is no contribution. -/
def contributes (c : Contribution) (s : State) : Bool :=
  c.lockedOnTime && c.quietFrame && (headRec s c.head).learnEnable

/-- A demodulated frame's contribution to the measurement of the ACTIVE step on its head (R127, R128, R129). -/
def contribute (c : Contribution) (s : State) : State :=
  match s.plan.current, s.plan.sub with
  | some n, some .active =>
    let p := planStep s n
    let r := s.plan.regs
    if p.head = c.head ∧ contributes c s = true then
      match p.phase with
      | .offset =>
        if r.offsetCount < 65535 then
          setPlan { s.plan with regs :=
            { r with offsetSum := r.offsetSum + (c.residual + c.offset), offsetCount := r.offsetCount + 1 } } s
        else s
      | .verify =>
        if r.verifyCount < 65535 ∧ c.tripped = false then
          setPlan { s.plan with regs :=
            { r with
              verifyGreatest := max r.verifyGreatest c.output.natAbs
              verifySum := r.verifySum + c.output.natAbs
              verifyCount := r.verifyCount + 1 } } s
        else s
      | .none | .settle | .learn => s
    else s
  | _, _ => s

/-- The monitor's state and trip notice for a frame of head `h`, taken by an ACTIVE SETTLE step on that head: a TRIPPED
state marks the revolution, a trip is counted (R115, R126; log 14). -/
def settleWatch (h : Nat) (tripped trip : Bool) (s : State) : State :=
  match s.plan.current, s.plan.sub with
  | some n, some .active =>
    if (planStep s n).phase = .settle ∧ (planStep s n).head = h then
      let r := s.plan.regs
      setPlan { s.plan with regs :=
        { r with
          settleMark := r.settleMark || tripped
          settleTrips := if trip then r.settleTrips + 1 else r.settleTrips } } s
    else s
  | _, _ => s

/-! ### Requests and the wait timer -/

/-- PLAN_START outside RUNNING (R119; log 14). -/
def startPlan (s : State) : State :=
  if (planStep s 0).phase = .none then
    let s₁ := setPlan { s.plan with state := .ended, current := none, sub := none } s
    raise .planEnd (offerReport 6 (planEndRecord .complete 0 0 none) s₁)
  else
    enterStep 0 (setPlan { s.plan with state := .running, ended := 0, failed := 0, last := none } s)

/-- PLAN_STOP (R124). -/
def stopPlan (s : State) : State :=
  match s.plan.state, s.plan.current with
  | .running, some n => endStep n .aborted s
  | _, _ => s

/-- The wait timer running out: the WAITING step ends TIMEOUT_WAIT; nothing happens while the timer is stopped (R120). -/
def waitTimerExpiry (s : State) : State :=
  match s.plan.waitTimer, s.plan.current with
  | some _, some n => endStep n .timeoutWait s
  | _, _ => s

end Sys2Proof.Machine
end

