-- ==== Sys2Proof/Machine/ContextStore.lean ====
section
/-! DEFINITION. The Context Store: head switches, the settle count, HOLD frames, and the notices they give (R48 to R58). -/

namespace Sys2Proof.Machine

/-- A notice that ends the running accumulation of the bound head and returns the ACTIVE step on that head to WAITING: a
head switch away from `h` (R50) or a target change of `h` (R55). Each receiver acts if `h` is its own head (R85, R122). -/
def headNotice (h : Nat) (s : State) : State :=
  let s₁ := if boundTo s h then discardAccumulation s else s
  if stepHead s₁ = some h then returnToWaiting s₁ else s₁

/-- The three properties an eligible frame takes from its head's context (R56). -/
structure FrameProps where
  settling : Bool
  seeking : Bool
  noTarget : Bool
  deriving DecidableEq, Repr

/-- A head switch, if `h` is not the active head: `h` becomes active, its settle remaining becomes S, and the notice of the
head switched away from is given (R49, R50). -/
def headSwitch (h : Nat) (s : State) : State :=
  if s.activeHead = some h then s
  else
    let s₁ := setHeadContext h { headContext s h with settle := s.settings.switchSettle } { s with activeHead := some h }
    match s.activeHead with
    | some previous => headNotice previous s₁
    | none => s₁

/-- The properties of a frame of head `h` against its context (R51, R56). -/
def frameProps (h : Nat) (s : State) : FrameProps :=
  let c := headContext s h
  { settling := decide (0 < c.settle), seeking := c.seeking, noTarget := !c.targetValid }

/-- The settle count worked off by one frame, where it is above 0 (R51). -/
def countSettle (h : Nat) (s : State) : State :=
  let c := headContext s h
  setHeadContext h { c with settle := c.settle - 1 } s

/-- An eligible frame of head `h` has been handled: a target change before it no longer stands directly before the head's next
frame (R57, R86; log 23). -/
def passTargetChange (h : Nat) (s : State) : State :=
  setHeadContext h { headContext s h with retargeted := false } s

/-- Stage 1 of R80 for an eligible frame of head `h`: head switch, properties, settle count. -/
def contextStage (h : Nat) (s : State) : State × FrameProps :=
  let s₁ := headSwitch h s
  (countSettle h s₁, frameProps h s₁)

/-- A HOLD frame names a target other than the one the context holds (R54). -/
def targetDiffers (c : HeadContext) (f : HoldRead) : Bool :=
  !c.targetValid || c.targetTrack != f.track || c.targetOffset != f.offset

/-- The context after a HOLD frame is read into it (R53, R54); `settle` is the switch settle setting S. A HOLD that repeats the
target leaves what the last target change left (R57; log 23). -/
def holdContext (settle : Nat) (f : HoldRead) (c : HeadContext) : HeadContext :=
  let c₁ := { c with targetValid := true, targetTrack := f.track, targetOffset := f.offset }
  if f.seek then { c₁ with seeking := true, retargeted := false }
  else { c₁ with
    seeking := false
    settle := if c.seeking || targetDiffers c f then settle else c.settle
    retargeted := if targetDiffers c f then decide (0 < settle) else c.retargeted }

/-- The Context Store's reading of a HOLD frame: a head at or above H is passed over; a target change, or SEEK, gives the
notice (R52 to R55). -/
def readHoldFrame (f : HoldRead) (s : State) : State :=
  if f.head < s.settings.headCount then
    let c := headContext s f.head
    let s₁ := setHeadContext f.head (holdContext s.settings.switchSettle f c) s
    if f.seek || targetDiffers c f then headNotice f.head s₁ else s₁
  else s

end Sys2Proof.Machine
end

