-- ==== Sys2Proof/Machine/Defects.lean ====
section
/-! DEFINITION. The Defect Table: lookups, hits, eviction, aging, the defect requests' changes (R94 to R107). -/

namespace Sys2Proof.Machine

/-- Changing the table. -/
def setDefects (t : Table DefectEntry) (s : State) : State := { s with defects := t }

/-- The slot and entry of a head and wedge, if there is one (R94). -/
def findDefect (t : Table DefectEntry) (h w : Nat) : Option (Nat × DefectEntry) :=
  t.find? fun c => c.2.head == h && c.2.wedge == w

/-- The head and wedge have a STATIC or CONFIRMED entry, so that their frames are held for DEFECT (R24, R101). -/
def knownDefect (s : State) (h w : Nat) : Bool :=
  match findDefect s.defects h w with
  | some c => c.2.state != .suspect
  | none => false

/-- The lowest-numbered empty slot (R94). -/
def lowestEmptySlot (t : Table DefectEntry) : Option Nat :=
  (List.range Config.defectSlots).find? fun k => (Table.find? t k).isNone

/-- The SUSPECT entry eviction takes: the largest quiet, and among equals the lowest slot (R98). -/
def evictionVictim : Table DefectEntry → Option (Nat × DefectEntry)
  | [] => none
  | (k, e) :: t =>
    if e.state = .suspect then
      match evictionVictim t with
      | some v => if e.quiet < v.2.quiet then some v else some (k, e)
      | none => some (k, e)
    else evictionVictim t

/-- Events of a DEFECT_NOTICE (R20, R100). -/
inductive DefectEvent where
  | new
  | confirmed
  | evicted
  | aged
  deriving DecidableEq, Repr

/-- The code of an event (R20). -/
def DefectEvent.code : DefectEvent → Nat
  | .new => 1
  | .confirmed => 2
  | .evicted => 3
  | .aged => 4

/-- The state after the event: 2 SUSPECT, 3 CONFIRMED, 0 removed (R20, R100). -/
def DefectEvent.stateCode : DefectEvent → Nat
  | .new => 2
  | .confirmed => 3
  | .evicted => 0
  | .aged => 0

/-- The record of a DEFECT_NOTICE (R20, R100). -/
def defectNotice (event : DefectEvent) (slot : Nat) (e : DefectEntry) : List Byte :=
  be 1 event.code ++ be 1 e.head ++ be 2 e.wedge ++ be 1 slot ++ be 1 event.stateCode ++ be 1 e.hits ++ be 1 e.quiet

/-! ### Hits -/

/-- An entry after a hit: hits + 1 up to 15, quiet 0, hit mark set; a SUSPECT entry whose hits reach the confirm threshold
becomes CONFIRMED (R96). -/
def hitEntry (threshold : Nat) (e : DefectEntry) : DefectEntry :=
  let hits := min (e.hits + 1) 15
  { e with
    hits := hits
    quiet := 0
    mark := true
    state := if e.state = .suspect ∧ threshold ≤ hits then .confirmed else e.state }

/-- A hit on an existing entry; a confirmation raises DEFECT_CONFIRMED and offers its notice (R96). -/
def hitExisting (slot : Nat) (e : DefectEntry) (s : State) : State :=
  let e' := hitEntry s.settings.confirmThreshold e
  let s₁ := setDefects (Table.put s.defects slot e') s
  if e.state = .suspect ∧ e'.state = .confirmed then
    offerDefectNotice (defectNotice .confirmed slot e') (raise .defectConfirmed s₁)
  else s₁

/-- A new entry made by a hit in an empty slot: SUSPECT with its NEW notice, or CONFIRMED at once under a threshold of 1
(R97). -/
def createByHit (slot h w : Nat) (s : State) : State :=
  let e : DefectEntry := { head := h, wedge := w, state := .suspect, hits := 1, quiet := 0, mark := true }
  if s.settings.confirmThreshold ≤ 1 then
    let e' := { e with state := .confirmed }
    offerDefectNotice (defectNotice .confirmed slot e')
      (raise .defectConfirmed (setDefects (Table.put s.defects slot e') s))
  else offerDefectNotice (defectNotice .new slot e) (setDefects (Table.put s.defects slot e) s)

/-- The eviction of a SUSPECT entry, with its notice (R98). -/
def evict (v : Nat × DefectEntry) (s : State) : State :=
  offerDefectNotice (defectNotice .evicted v.1 v.2) (setDefects (Table.drop s.defects v.1) s)

/-- A hit on a head and wedge (R96, R97, R98). -/
def recordHit (h w : Nat) (s : State) : State :=
  match findDefect s.defects h w with
  | some (slot, e) => hitExisting slot e s
  | none =>
    match lowestEmptySlot s.defects with
    | some slot => createByHit slot h w s
    | none =>
      match evictionVictim s.defects with
      | some v => createByHit v.1 h w (evict v s)
      | none => raise .defectFull (bump .defectDrop s)

/-! ### Aging (R99) -/

/-- An entry after a completed revolution event of its head: the hit mark is cleared; a SUSPECT entry that was not hit has
quiet + 1 up to 255 (R99). -/
def agedEntry (e : DefectEntry) : DefectEntry :=
  if e.state = .suspect ∧ e.mark = false then { e with quiet := min (e.quiet + 1) 255 } else { e with mark := false }

/-- The event removes the entry: SUSPECT, not hit, an age limit that is not 0 and that quiet has reached (R99). -/
def agesOut (limit : Nat) (e : DefectEntry) : Bool :=
  e.state == .suspect && !e.mark && limit != 0 && decide (limit ≤ (agedEntry e).quiet)

/-- The entries of head `h` aged, the others as they stand (R99). -/
def agedTable (h limit : Nat) (t : Table DefectEntry) : Table DefectEntry :=
  t.filterMap fun c =>
    if c.2.head = h then (if agesOut limit c.2 then none else some (c.1, agedEntry c.2)) else some c

/-- The entries that age out, with their aged values, in ascending slot order (R99). -/
def agedOut (h limit : Nat) (t : Table DefectEntry) : Table DefectEntry :=
  (t.filter fun c => c.2.head == h && agesOut limit c.2).map fun c => (c.1, agedEntry c.2)

/-- The aging of head `h`'s entries at a completed revolution event, with the AGED notices (R99). -/
def ageDefects (h : Nat) (s : State) : State :=
  let limit := s.settings.ageLimit
  (agedOut h limit s.defects).foldl (fun s c => offerDefectNotice (defectNotice .aged c.1 c.2) s)
    (setDefects (agedTable h limit s.defects) s)

/-! ### Requests (R102 to R104) -/

/-- What DEFECT_ADD did: the table changed or needed no change, or no room (R102). -/
inductive DefectAdded where
  | done
  | full
  deriving DecidableEq, Repr

/-- A STATIC entry placed in a slot (R102). -/
def placeStatic (slot h w : Nat) (s : State) : State :=
  setDefects (Table.put s.defects slot { head := h, wedge := w, state := .static, hits := 0, quiet := 0, mark := false }) s

/-- DEFECT_ADD for a head and wedge in range (R102). A conversion keeps the hit mark (log 10). -/
def addDefect (h w : Nat) (s : State) : State × DefectAdded :=
  match findDefect s.defects h w with
  | some (slot, e) => (setDefects (Table.put s.defects slot { e with state := .static }) s, .done)
  | none =>
    match lowestEmptySlot s.defects with
    | some slot => (placeStatic slot h w s, .done)
    | none =>
      match evictionVictim s.defects with
      | some v => (placeStatic v.1 h w (evict v s), .done)
      | none => (s, .full)

/-- DEFECT_REMOVE for a head and wedge in range (R103). -/
def removeDefect (h w : Nat) (s : State) : State :=
  setDefects (s.defects.filter fun c => !(c.2.head == h && c.2.wedge == w)) s

/-- An entry matches a flush's scope: 1 STATIC, 2 DYNAMIC, 3 BOTH (R104). -/
def scopeMatches (scope : Int) (e : DefectEntry) : Bool :=
  scope == 3 || (scope == 1 && e.state == .static) || (scope == 2 && e.state != .static)

/-- DEFECT_FLUSH for a scope of 1..3 and a head of -1..23 (R104). -/
def flushDefects (scope head : Int) (s : State) : State :=
  setDefects (s.defects.filter fun c => !(scopeMatches scope c.2 && (head == -1 || head == (c.2.head : Int)))) s

/-- What RESTART keeps: the STATIC entries, hit marks cleared (R106). -/
def restartDefects (t : Table DefectEntry) : Table DefectEntry :=
  (t.filter fun c => c.2.state == .static).map fun c => (c.1, { c.2 with mark := false })

end Sys2Proof.Machine
end

