-- ==== Sys2Proof/Machine/WedgeClock.lean ====
section
/-! DEFINITION. The Wedge Clock: acquisition, periods and predictions, rulings, misses, loss, the idle timer, revolution
events (R59 to R74). -/

namespace Sys2Proof.Machine

/-- Changing the clock. -/
def setClock (c : Clock) (s : State) : State := { s with clock := c }

/-- LOCKED or COASTING. -/
def ClockState.running : ClockState → Bool
  | .locked | .coasting => true
  | .unlocked | .acquiring | .lost => false

/-- A clock-loss notice, given at each departure from LOCKED or COASTING (R73): a running accumulation is discarded, an
ACTIVE step returns to WAITING (R85, R122). -/
def clockLossNotice (s : State) : State := returnToWaiting (discardAccumulation s)

/-- What a departure from LOCKED or COASTING brings about beside the clock's own change: the notice (R73), and the start of
the budget refresh timer (R140). Nothing, where the clock was in another state. -/
def departure (s : State) : State :=
  if s.clock.state.running then setRefreshTimer (some Config.refreshMs) (clockLossNotice s) else s

/-! ### Periods and predictions -/

/-- The period of a wedge: P + 1 below r, P from r on (R63). -/
def wedgePeriod (c : Clock) (w : Nat) : Nat := if w < c.remainder then c.period + 1 else c.period

/-- The window half-width a window code gives: P divided by 4, 8, 16 or 32, floor (R64). -/
def windowHalfWidth (code period : Nat) : Nat := period / 2 ^ (code + 2)

/-- The wedge after `w`: wedge 0 after wedge W - 1 (R64). -/
def nextWedge (wedges w : Nat) : Nat := if w + 1 < wedges then w + 1 else 0

/-- A wedge receives its reference time: the next wedge becomes the expected one, with its prediction and half-width; the
reference time of wedge 0 is also that of the last index wedge (R64). -/
def giveReference (set : Settings) (w time : Nat) (c : Clock) : Clock :=
  { c with
    expected := some
      { wedge := nextWedge set.wedges w
        predicted := time + wedgePeriod c w
        halfWidth := windowHalfWidth set.windowCode c.period }
    lastIndex := if w = 0 then some time else c.lastIndex }

/-- A revolution length's P lies in 200..65535 (R62, R63). Lengths are differences of arrival ticks (log 15). -/
def plausible (wedges length : Nat) : Bool :=
  decide (Config.minPeriod ≤ length / wedges) && decide (length / wedges ≤ Config.maxPeriod)

/-- L, P and r of a measured revolution stored (R62, R63). -/
def storeLength (wedges length : Nat) (c : Clock) : Clock :=
  { c with revLength := length, period := length / wedges, remainder := length - length / wedges * wedges }

/-! ### Acquisition -/

/-- A measurement started at an index frame (R61). -/
def startMeasurement (arrival w : Nat) (c : Clock) : Clock :=
  { c with acquisition := some { start := arrival, frames := 1, good := w == 0 } }

/-- A frame without INDEX counted in a started measurement (R61). -/
def countAcquisition (w : Nat) (a : Acquisition) : Acquisition :=
  { a with frames := min (a.frames + 1) 513, good := a.good && w == a.frames }

/-- The idle timer started with the setting as it stands (R71). -/
def startIdle (set : Settings) (c : Clock) : Clock := { c with idleTimer := some set.idleTime }

/-- The record of a CLOCK_NOTICE (R20, R62, R70). -/
def clockNotice (event cause : Nat) (c : Clock) : List Byte :=
  be 1 event ++ be 1 cause ++ be 4 c.revLength ++ be 2 c.period ++ be 2 c.remainder

/-- The measurement's three conditions (R62). -/
def measurementGood (wedges arrival : Nat) (a : Acquisition) : Bool :=
  a.good && a.frames == wedges && plausible wedges (arrival - a.start)

/-- The entry to LOCKED at the end of a good measurement: L, P, r, the reference of wedge 0, the budget refresh timer
stopped, the alert, the notice (R62, R140); the acquisition record is not started (log 12). -/
def lockClock (arrival : Nat) (a : Acquisition) (s : State) : State :=
  let c := storeLength s.settings.wedges (arrival - a.start) s.clock
  let c' := giveReference s.settings 0 arrival
    { c with state := .locked, missCount := 0, missed := [], acquisition := none }
  offerReport 1 (clockNotice 1 0 c') (raise .clockLocked (setRefreshTimer none (setClock c' s)))

/-- An index frame ends a measurement: the clock locks, or the failure is counted and a new measurement starts at this
frame (R62). -/
def endMeasurement (arrival w : Nat) (a : Acquisition) (s : State) : State :=
  if measurementGood s.settings.wedges arrival a then lockClock arrival a s
  else bump .acquireFails (setClock (startMeasurement arrival w s.clock) s)

/-! ### Loss, and the entry to UNLOCKED -/

/-- The clock going to LOST (R70): cause 1 loss limit reached, 2 idle timeout. What R70 does not name stays (log 11). -/
def loseClock (cause : Nat) (s : State) : State :=
  let s₁ := departure s
  let c := { s₁.clock with
    state := .lost, expected := none, missed := [], missCount := 0, acquisition := none, idleTimer := none }
  offerReport 1 (clockNotice 2 cause c) (raise .clockLost (setClock c s₁))

/-- The entry to UNLOCKED at an accepted change of W (R60). What R60 does not name stays (log 11). -/
def unlockClock (s : State) : State :=
  let s₁ := departure s
  setClock { s₁.clock with
    state := .unlocked, revLength := 0, period := 0, remainder := 0, expected := none, missed := [], missCount := 0
    acquisition := none, idleTimer := none } s₁

/-- The idle timer running out (R71); nothing happens while it is stopped. -/
def idleExpiry (s : State) : State := if s.clock.idleTimer.isSome then loseClock 2 s else s

/-! ### POSITION frames -/

/-- What a POSITION frame carries (R18). -/
structure Position where
  head : Nat
  wedge : Nat
  track : Nat
  eOut : Int
  flags : PositionFlags
  deriving DecidableEq, Repr

/-- The POSITION frame (R18, R20). -/
def positionFrame (p : Position) : Frame :=
  buildFrame Config.kindPosition
    (be 1 p.head ++ be 2 p.wedge ++ be 3 p.track ++ beInt 2 p.eOut ++ be 2 p.flags.word)

/-- A POSITION frame built, ATTENTION as the alerts stand, and offered to the LOOP class (R18, R155). -/
def offerPosition (p : Position) (s : State) : State :=
  offerLoop (positionFrame { p with flags := { p.flags with attention := attention s } }) s

/-- The synthesized POSITION of a missed wedge (R36, R114). -/
def synthesizedPosition (h w : Nat) (c : HeadContext) : Position :=
  { head := h, wedge := w, track := c.lastTrack, eOut := c.held
    flags := { missed := true, held := true, offtrack := c.monitor == .tripped } }

/-- The synthesized POSITION offered, if there is an active head and its mode is CORRECTED or BOTH; it counts as a held
frame (R36, R37, R66). -/
def synthesize (w : Nat) (s : State) : State :=
  match s.activeHead with
  | some h =>
    if (headRec s h).mode = .raw then s
    else bump .heldFrames (offerPosition (synthesizedPosition h w (headContext s h)) s)
  | none => s

/-! ### Missed wedges -/

/-- The window of the expected wedge closes: the wedge is declared missed (R66); nothing happens where no wedge is
expected (R69). -/
def declareMissed (s : State) : State :=
  match s.clock.expected with
  | some e =>
    let s₁ := bump .missedWedges s
    let c := giveReference s.settings e.wedge e.predicted
      { s₁.clock with
        missCount := s.clock.missCount + 1
        missed := s.clock.missed ++ [e.wedge]
        state := if s.clock.state = .locked then .coasting else s.clock.state }
    let s₂ := synthesize e.wedge (setClock c s₁)
    if s.settings.lossLimit ≤ s.clock.missCount + 1 then loseClock 1 s₂ else s₂
  | none => s

/-- The expected wedge's window closed before the reference tick `now` (R64). -/
def windowPast (now : Nat) (c : Clock) : Bool :=
  match c.expected with
  | some e => decide (e.predicted + e.halfWidth < now)
  | none => false

/-- The windows that closed before the tick `now` are closed first, each at its own closing (R65, R66; log 5): at most
`fuel` of them. -/
def closePast (now : Nat) : Nat → State → State
  | 0, s => s
  | fuel + 1, s => if windowPast now s.clock then closePast now fuel (declareMissed s) else s

/-! ### Rulings -/

/-- The rulings on a frame (R65, R67, R68, R69). -/
inductive Ruling where
  | unruled
  | onTime
  | early
  | late
  | slip
  deriving DecidableEq, Repr

/-- What the clock found and ruled: the ruling, whether the frame is locked on time (R65), whether it is a completed
revolution event (R72). -/
structure ClockResult where
  ruling : Ruling
  lockedOnTime : Bool
  event : Bool
  deriving DecidableEq, Repr

/-- The ruling on a frame of wedge `w` found in LOCKED or COASTING (R65, R67, R68; with no wedge expected: log 13). -/
def ruleFrame (c : Clock) (arrival w : Nat) (index : Bool) : Ruling :=
  match c.expected with
  | some e =>
    if w = e.wedge ∧ index = (w == 0) then
      if arrival + e.halfWidth < e.predicted then .early else .onTime
    else if w ∈ c.missed then .late
    else .slip
  | none => if w ∈ c.missed then .late else .slip

/-- L measured anew at an index frame ruled on time, unless its P is implausible (R63). -/
def remeasure (set : Settings) (arrival : Nat) (c : Clock) : Clock :=
  match c.lastIndex with
  | some t => if plausible set.wedges (arrival - t) then storeLength set.wedges (arrival - t) c else c
  | none => c

/-- The clock after a frame ruled on time (R63, R64, R65). -/
def onTimeClock (set : Settings) (arrival w : Nat) (c : Clock) : Clock :=
  let c₁ := if w = 0 then remeasure set arrival c else c
  giveReference set w arrival { c₁ with state := .locked, missCount := 0, missed := [] }

/-- The clock after the expected wedge ruled EARLY (R64, R65). -/
def earlyClock (set : Settings) (w : Nat) (c : Clock) : Clock :=
  match c.expected with
  | some e => giveReference set w e.predicted { c with state := .coasting }
  | none => c

/-- The clock after a slip: ACQUIRING, not started; L, P and r kept (R68; log 11). -/
def slipClock (c : Clock) : Clock :=
  { c with state := .acquiring, expected := none, missed := [], missCount := 0, acquisition := none }

/-- The effect of a ruling on the clock, its counters and, at a slip, the notice (R65, R67, R68). -/
def applyRuling (r : Ruling) (arrival w : Nat) (s : State) : State :=
  match r with
  | .unruled => s
  | .onTime => setClock (onTimeClock s.settings arrival w s.clock) s
  | .early => bump .windowMiss (setClock (earlyClock s.settings w s.clock) s)
  | .late => s
  | .slip =>
    let s₁ := departure (bump .slips s)
    setClock (slipClock s₁.clock) s₁

/-- A frame taken in UNLOCKED, ACQUIRING or LOST (R60, R61, R62, R70, R71). -/
def acquireFrame (arrival w : Nat) (index : Bool) (s : State) : State :=
  match s.clock.state, s.clock.acquisition with
  | .acquiring, some a =>
    let s₁ := setClock (startIdle s.settings s.clock) s
    if index then endMeasurement arrival w a s₁
    else setClock { s₁.clock with acquisition := some (countAcquisition w a) } s₁
  | .acquiring, none =>
    let c := startIdle s.settings s.clock
    setClock (if index then startMeasurement arrival w c else c) s
  | _, _ =>
    if index then
      setClock { startMeasurement arrival w (startIdle s.settings s.clock) with state := .acquiring } s
    else s

/-- A WEDGE frame taken by the clock: its ruling and its effect on the clock (R59 to R71). -/
def ruleStage (arrival w : Nat) (index : Bool) (s : State) : State × ClockResult :=
  if s.clock.state.running then
    let r := ruleFrame s.clock arrival w index
    (applyRuling r arrival w (setClock (startIdle s.settings s.clock) s),
      { ruling := r, lockedOnTime := s.clock.state == .locked && r == .onTime, event := index })
  else (acquireFrame arrival w index s, { ruling := .unruled, lockedOnTime := false, event := false })

/-- What a completed revolution event of head `h` brings about at stage 2: the stamp, the report budget, and the aging of
the head's defect entries (R72, R95, R99, R140; log 7). -/
def revolutionEvent (h : Nat) (s : State) : State :=
  ageDefects h (refreshBudget (setClock { s.clock with stamp := s.clock.stamp + 1 } s))

/-- Stage 2 of R80 for a frame of head `h`: the ruling, then the completed revolution event if there is one. -/
def clockStage (arrival h w : Nat) (index : Bool) (s : State) : State × ClockResult :=
  let (s₁, r) := ruleStage arrival w index s
  (if r.event then revolutionEvent h s₁ else s₁, r)

end Sys2Proof.Machine
end

