-- ==== Sys2Proof/Machine/Resets.lean ====
section
/-! DEFINITION. RESTART's clearing, block by block, and power-on reset (R1, R151 and the owners' rules it gathers). -/

namespace Sys2Proof.Machine

/-- The Link Interface at RESTART: the FIFO keeps only the frame in transmission, the latch is clear (R9, R14). -/
def restartLink (l : Link) : Link :=
  { l with fifo := if l.frontSending then l.fifo.take 1 else [], latch := {} }

/-- The Output Scheduler at RESTART: queues empty, round position 0, budget from the report limit, refresh timer started;
the frame in transmission is sent to its end (R134, R139, R140). -/
def restartOutput (reportLimit : Nat) (o : Output) : Output :=
  { budget := budgetOf reportLimit, sending := o.sending }

/-- RESTART's clearing in every block. The tables, the settings, the alert mask and the STATIC defect entries are kept
(R151). -/
def restartState (s : State) : State :=
  { s with
    link := restartLink s.link
    out := restartOutput s.settings.reportLimit s.out
    alerts := { mask := s.alerts.mask }
    contexts := []
    activeHead := none
    clock := {}
    engine := {}
    defects := restartDefects s.defects
    plan := {} }

/-- Power-on reset: every block at its power-on value. The commands that wait are not the part's own and stay (R1, R151;
log 19). -/
def powerOn (s : State) : State := { State.reset with pending := s.pending }

end Sys2Proof.Machine
end

