-- ==== Sys2Proof/Machine/EventCommands.lean ====
section
/-! DEFINITION. The meanings of the commands that are no frame: the reset input, a window's closing, the timers' expiries,
the ends of transmissions. An event whose timer, window or transmission is not there changes nothing (log 4). -/

namespace Sys2Proof.Machine

/-- POWER_ON_RESET (R1). -/
def execPowerOnReset (s : State) : Host.Outcome State Fault Refusal := .next (powerOn s)

/-- WEDGE_MISSED (R66). -/
def execWedgeMissed (s : State) : Host.Outcome State Fault Refusal := .next (declareMissed s)

/-- IDLE_TIMEOUT (R71). -/
def execIdleTimeout (s : State) : Host.Outcome State Fault Refusal := .next (idleExpiry s)

/-- TIMEOUT_WAIT (R120). -/
def execTimeoutWait (s : State) : Host.Outcome State Fault Refusal := .next (waitTimerExpiry s)

/-- BUDGET_REFRESH_TIMER_EXPIRY (R140). -/
def execBudgetRefreshTimerExpiry (s : State) : Host.Outcome State Fault Refusal := .next (refreshTimerExpiry s)

/-- FRONT_TRANSMIT_END (R14). -/
def execFrontTransmitEnd (s : State) : Host.Outcome State Fault Refusal := .next (frontTransmitEnd s)

/-- BENCH_TRANSMIT_END (R141). -/
def execBenchTransmitEnd (s : State) : Host.Outcome State Fault Refusal := .next (benchTransmitEnd s)

end Sys2Proof.Machine
end

