-- ==== Sys2Proof/Machine/ObjectSpace.lean ====
section
/-! DEFINITION. The object space of the Management Unit: reading and writing one cell of each object (R41, R44, R76, R105,
R117, R145, R148, R149), the checks of a SET (R132, R147). -/

namespace Sys2Proof.Machine

/-- The objects (R145). -/
inductive Obj where
  | setting
  | headrec
  | lintab
  | runout
  | defect
  | planstep
  | state
  | counter
  | alert
  deriving DecidableEq, Repr

/-- The object an object code names (R145). -/
def objOf (code : Nat) : Option Obj :=
  match code with
  | 1 => some .setting
  | 2 => some .headrec
  | 3 => some .lintab
  | 4 => some .runout
  | 5 => some .defect
  | 6 => some .planstep
  | 7 => some .state
  | 8 => some .counter
  | 9 => some .alert
  | _ => none

/-- The number of indices of an object (R145). -/
def Obj.size : Obj → Nat
  | .setting => 32
  | .headrec => 384
  | .lintab => 216
  | .runout => 12288
  | .defect => 1024
  | .planstep => 512
  | .state => 16
  | .counter => 24
  | .alert => 2

/-- Cells that cannot be written (R145, R147). -/
def readOnlyCell (o : Obj) (k : Nat) : Bool :=
  match o with
  | .setting => decide (14 ≤ k)
  | .headrec => decide (11 ≤ k % 16)
  | .lintab => false
  | .runout => false
  | .defect => true
  | .planstep => decide (10 ≤ k % 16)
  | .state => true
  | .counter => false
  | .alert => k == 0

/-- Cells held by running work (R77, R132, R147, R148). -/
def heldCell (s : State) (o : Obj) (k : Nat) : Bool :=
  let running := s.plan.state == .running
  match o with
  | .setting => decide (k ≤ 1) && (running || s.engine.binding.isSome)
  | .headrec => running && stepHead s == some (k / 16)
  | .lintab => running && stepHead s == some (k / Config.linPoints)
  | .runout => boundTo s (k / Config.wedgeCells)
  | .planstep => running
  | .defect => false
  | .state => false
  | .counter => false
  | .alert => false

/-! ### Settings (R148) -/

/-- The least and greatest value of a setting (R148). -/
def settingRange (k : Nat) : Int × Int :=
  match k with
  | 0 => (1, 24)
  | 1 => (64, 512)
  | 2 => (0, 3)
  | 3 => (1, 15)
  | 4 => (1, 255)
  | 5 => (0, 15)
  | 6 => (1, 8191)
  | 7 => (1, 8191)
  | 8 => (1, 16)
  | 9 => (1, 16)
  | 10 => (0, 3)
  | 11 => (1, 15)
  | 12 => (0, 255)
  | 13 => (0, 32)
  | _ => (0, 0)

/-- A setting by its index; 14 to 31 read 0 (R145, R148). -/
def readSetting (t : Settings) (k : Nat) : Nat :=
  match k with
  | 0 => t.headCount
  | 1 => t.wedges
  | 2 => t.windowCode
  | 3 => t.lossLimit
  | 4 => t.idleTime
  | 5 => t.switchSettle
  | 6 => t.learnWindow
  | 7 => t.threshold
  | 8 => t.tripCount
  | 9 => t.releaseCount
  | 10 => t.triggerMode
  | 11 => t.confirmThreshold
  | 12 => t.ageLimit
  | 13 => t.reportLimit
  | _ => 0

/-- The table with one setting changed (R148). -/
def storeSetting (t : Settings) (k v : Nat) : Settings :=
  match k with
  | 0 => { t with headCount := v }
  | 1 => { t with wedges := v }
  | 2 => { t with windowCode := v }
  | 3 => { t with lossLimit := v }
  | 4 => { t with idleTime := v }
  | 5 => { t with switchSettle := v }
  | 6 => { t with learnWindow := v }
  | 7 => { t with threshold := v }
  | 8 => { t with tripCount := v }
  | 9 => { t with releaseCount := v }
  | 10 => { t with triggerMode := v }
  | 11 => { t with confirmThreshold := v }
  | 12 => { t with ageLimit := v }
  | 13 => { t with reportLimit := v }
  | _ => t

/-- A setting stored; a W different from the one held sends the clock to UNLOCKED (R60, R148). -/
def writeSetting (k v : Nat) (s : State) : State :=
  let s₁ := { s with settings := storeSetting s.settings k v }
  if k = 1 ∧ v ≠ s.settings.wedges then unlockClock s₁ else s₁

/-! ### Head records (R41) -/

/-- The code of a forwarding mode (R41). -/
def FwdMode.code : FwdMode → Nat
  | .raw => 0
  | .corrected => 1
  | .both => 2

/-- The forwarding mode a code names, codes above 2 aside (R41). -/
def fwdModeOf (code : Int) : FwdMode := if code = 0 then .raw else if code = 1 then .corrected else .both

/-- A field of a head's record; field 11 is the effective offset, 12 to 15 read 0 (R41). -/
def readHeadField (s : State) (h field : Nat) : Int :=
  let r := headRec s h
  match field with
  | 0 => flagCell r.enabled
  | 1 => r.mode.code
  | 2 => r.burstFloor
  | 3 => flagCell r.compEnable
  | 4 => flagCell r.learnEnable
  | 5 => flagCell r.defectLearn
  | 6 => flagCell (r.source == .track)
  | 7 => r.ownOffset
  | 8 => r.refHead
  | 9 => r.offsetDiff
  | 10 => flagCell r.offsetValid
  | 11 => effectiveOffset s h
  | _ => 0

/-- The least and greatest value of a head record's field (R41). -/
def headFieldRange (field : Nat) : Int × Int :=
  match field with
  | 0 => (0, 1)
  | 1 => (0, 2)
  | 2 => (0, 8190)
  | 3 => (0, 1)
  | 4 => (0, 1)
  | 5 => (0, 1)
  | 6 => (0, 1)
  | 7 => (-8192, 8191)
  | 8 => (0, 23)
  | 9 => (-8192, 8191)
  | 10 => (0, 1)
  | _ => (0, 0)

/-- A record with one field changed; the own offset and the offset difference set offset valid (R41, R42). -/
def storeHeadField (r : HeadRec) (field : Nat) (v : Int) : HeadRec :=
  match field with
  | 0 => { r with enabled := v == 1 }
  | 1 => { r with mode := fwdModeOf v }
  | 2 => { r with burstFloor := v.toNat }
  | 3 => { r with compEnable := v == 1 }
  | 4 => { r with learnEnable := v == 1 }
  | 5 => { r with defectLearn := v == 1 }
  | 6 => { r with source := if v = 1 then .track else .own }
  | 7 => { r with ownOffset := v, offsetValid := true }
  | 8 => { r with refHead := v.toNat }
  | 9 => { r with offsetDiff := v, offsetValid := true }
  | 10 => { r with offsetValid := v == 1 }
  | _ => r

/-! ### Plan steps (R117) -/

/-- A field of a plan step record; 10 to 15 read 0 (R117). -/
def readStepField (p : PlanStep) (field : Nat) : Int :=
  match field with
  | 0 => p.phase.code
  | 1 => p.head
  | 2 => p.m
  | 3 => p.passes
  | 4 => p.gain
  | 5 => p.limitA
  | 6 => p.limitB
  | 7 => flagCell p.fold
  | 8 => flagCell (p.onFail == .stop)
  | 9 => p.timeout
  | _ => 0

/-- The least and greatest value of a plan step's field (R117). -/
def stepFieldRange (field : Nat) : Int × Int :=
  match field with
  | 0 => (0, 4)
  | 1 => (0, 23)
  | 2 => (0, 6)
  | 3 => (1, 16)
  | 4 => (1, 16)
  | 5 => (0, 8191)
  | 6 => (0, 8191)
  | 7 => (0, 1)
  | 8 => (0, 1)
  | 9 => (0, 65535)
  | _ => (0, 0)

/-- The phase a code names, codes above 4 aside (R117). -/
def phaseOf (code : Int) : Phase :=
  if code = 0 then .none else if code = 1 then .settle else if code = 2 then .offset else if code = 3 then .learn else .verify

/-- A plan step record with one field changed (R117). -/
def storeStepField (p : PlanStep) (field : Nat) (v : Int) : PlanStep :=
  match field with
  | 0 => { p with phase := phaseOf v }
  | 1 => { p with head := v.toNat }
  | 2 => { p with m := v.toNat }
  | 3 => { p with passes := v.toNat }
  | 4 => { p with gain := v.toNat }
  | 5 => { p with limitA := v.toNat }
  | 6 => { p with limitB := v.toNat }
  | 7 => { p with fold := v == 1 }
  | 8 => { p with onFail := if v = 1 then .stop else .continue }
  | 9 => { p with timeout := v.toNat }
  | _ => p

/-! ### Defects and state -/

/-- The code of a defect state; 0 is an empty slot (R105). -/
def DefectState.code : DefectState → Nat
  | .static => 1
  | .suspect => 2
  | .confirmed => 3

/-- A field of a defect slot; an empty slot reads 0 (R105). -/
def readDefectField (e : Option DefectEntry) (field : Nat) : Int :=
  match e with
  | none => 0
  | some e =>
    match field with
    | 0 => e.head
    | 1 => e.wedge
    | 2 => e.state.code
    | _ => e.hits * 256 + e.quiet

/-- The code of a clock state (R59, R149). -/
def ClockState.code : ClockState → Nat
  | .unlocked => 0
  | .acquiring => 1
  | .locked => 2
  | .coasting => 3
  | .lost => 4

/-- The code of a plan state (R118, R149). -/
def PlanState.code : PlanState → Nat
  | .idle => 0
  | .running => 1
  | .ended => 2

/-- The code of a step sub-state; 0 when there is none (R118, R149). -/
def subStateCode : Option SubState → Nat
  | none => 0
  | some .waiting => 1
  | some .active => 2

/-- The code of a pass state (R78, R149). -/
def PassState.code : PassState → Nat
  | .unbound => 0
  | .ready => 1
  | .accumulate => 2
  | .solve => 3

/-- A number, or -1 when there is none (R149). -/
def orMinusOne : Option Nat → Int
  | some n => n
  | none => -1

/-- The STATE object (R149). -/
def readState (s : State) (k : Nat) : Int :=
  match k with
  | 0 => s.clock.state.code
  | 1 => s.clock.revLength
  | 2 => s.clock.period
  | 3 => s.clock.remainder
  | 4 => s.clock.stamp.toNat
  | 5 => orMinusOne s.activeHead
  | 6 => s.plan.state.code
  | 7 => orMinusOne s.plan.current
  | 8 => subStateCode s.plan.sub
  | 9 => orMinusOne (s.engine.binding.map Binding.head)
  | 10 => s.engine.pass.code
  | 11 => s.engine.passNumber
  | 12 => s.defects.length
  | 13 =>
    match s.out.budget with
    | .left n => n
    | .unlimited => -1
  | 14 => s.clock.missCount
  | _ => 0

/-! ### Cells -/

/-- A cell as it stands (R145, R146). -/
def readCell (s : State) (o : Obj) (k : Nat) : Int :=
  match o with
  | .setting => readSetting s.settings k
  | .headrec => readHeadField s (k / 16) (k % 16)
  | .lintab => Table.get 0 s.linTab k
  | .runout => Table.get 0 s.runout k
  | .defect => readDefectField (Table.find? s.defects (k / 4)) (k % 4)
  | .planstep => readStepField (planStep s (k / 16)) (k % 16)
  | .state => readState s k
  | .counter => readCounter s k
  | .alert => if k = 0 then s.alerts.flags.toNat else s.alerts.mask.toNat

/-- The least and greatest value of a cell that clamps; none for COUNTER and ALERT, which do not (R147). -/
def cellRange (o : Obj) (k : Nat) : Option (Int × Int) :=
  match o with
  | .setting => some (settingRange k)
  | .headrec => some (headFieldRange (k % 16))
  | .lintab => some (-128, 127)
  | .runout => some (-2048, 2047)
  | .planstep => some (stepFieldRange (k % 16))
  | .defect => none
  | .state => none
  | .counter => none
  | .alert => none

/-- A value as the cell stores it, clamped to the range of the cell's field (R147). -/
def storedValue (o : Obj) (k : Nat) (v : Int) : Int :=
  match cellRange o k with
  | some r => clamp r.1 r.2 v
  | none => v

/-- Storing a value, already clamped, in a writable cell. A COUNTER cell becomes 0 whatever the value; the ALERT mask keeps
the value's twelve lowest bits (R147, R149, R154). -/
def writeCell (o : Obj) (k : Nat) (v : Int) (s : State) : State :=
  match o with
  | .setting => writeSetting k v.toNat s
  | .headrec => setHeadRec (k / 16) (storeHeadField (headRec s (k / 16)) (k % 16) v) s
  | .lintab => { s with linTab := Table.set 0 s.linTab k v }
  | .runout => { s with runout := Table.set 0 s.runout k v }
  | .planstep => { s with steps := Table.set {} s.steps (k / 16) (storeStepField (planStep s (k / 16)) (k % 16) v) }
  | .counter => writeCounter k 0 s
  | .alert => setMask (BitVec.ofInt 12 v) s
  | .defect => s
  | .state => s

/-- Values written to consecutive cells, in ascending index (R147). -/
def writeCells (o : Obj) : Nat → List Int → State → State
  | _, [], s => s
  | k, v :: vs, s => writeCells o (k + 1) vs (writeCell o k (storedValue o k v) s)

/-- Some value of the range is changed by its clamp (R147). -/
def anyClamped (o : Obj) : Nat → List Int → Bool
  | _, [] => false
  | k, v :: vs => storedValue o k v != v || anyClamped o (k + 1) vs

end Sys2Proof.Machine
end

