-- ==== Sys2Proof/Machine/Management.lean ====
section
/-! DEFINITION. The Management Unit: admission of a request, its execution, its answer (R9, R136, R143 to R151). -/

namespace Sys2Proof.Machine

/-- Statuses of an answer (R144). -/
inductive Status where
  | done
  | clamped
  | busy
  | inuse
  | range
  | full
  | readonly
  | unknown
  deriving DecidableEq, Repr

/-- The code of a status (R144). -/
def Status.code : Status → Nat
  | .done => 0
  | .clamped => 1
  | .busy => 2
  | .inuse => 3
  | .range => 4
  | .full => 5
  | .readonly => 6
  | .unknown => 7

/-- What an execution answers: its status, and the cells a GET read. -/
structure Reply where
  status : Status
  values : List Int := []
  deriving DecidableEq, Repr

/-- The execution of a request: the state it leaves and what it answers. -/
abbrev Action := Mgmt → State → State × Reply

/-! ### The answer -/

/-- The ANSWER frame to a request, with the latch and the attention flag as they stand (R19, R20, R143). -/
def answerFrame (m : Mgmt) (r : Reply) (s : State) : Frame :=
  buildFrame Config.kindAnswer
    ([m.code, m.token] ++ be 1 r.status.code ++ be 1 s.link.latch.summary ++ be 1 (if attention s then 1 else 0) ++
      [m.object] ++ be 1 r.values.length ++ be 2 m.index ++ r.values.flatMap (beInt 4))

/-- The answer built: the latch copied and cleared, the frame admitted (R9, R136, R143). -/
def answer (m : Mgmt) (r : Reply) (s : State) : State :=
  offerAnswer (answerFrame m r s) (setLatch {} s)

/-- A request taken: executed and answered if the ANSWER queue has room, else discarded unexecuted, counted and raised
(R136, R143). -/
def manage (act : Action) (m : Mgmt) (s : State) : State :=
  if answerRoom s then answer m (act m s).2 (act m s).1
  else raise .answerDropped (bump .answerDrop s)

/-! ### GET and SET -/

/-- The count of a GET, clamped to 1..8 (R146). -/
def getCount (m : Mgmt) : Nat := max 1 (min m.count.toNat 8)

/-- GET (R146). -/
def getCells : Action := fun m s =>
  match objOf m.object.toNat with
  | none => (s, { status := .unknown })
  | some o =>
    if o.size < m.index + getCount m then (s, { status := .range })
    else (s, { status := .done, values := (List.range (getCount m)).map fun i => readCell s o (m.index + i) })

/-- The cells of a request's range. -/
def cellsOf (m : Mgmt) : List Nat := (List.range m.count.toNat).map fun i => m.index + i

/-- The status with which a SET's range is refused, if it is: RANGE, then READONLY, then INUSE (R147). -/
def setRefusal (o : Obj) (m : Mgmt) (s : State) : Option Status :=
  if m.count.toNat = 0 ∨ o.size < m.index + m.count.toNat then some .range
  else if (cellsOf m).any (readOnlyCell o) then some .readonly
  else if (cellsOf m).any (heldCell s o) then some .inuse
  else none

/-- SET (R147): the values are those the count names. -/
def setCells : Action := fun m s =>
  match objOf m.object.toNat with
  | none => (s, { status := .unknown })
  | some o =>
    match setRefusal o m s with
    | some refusal => (s, { status := refusal })
    | none =>
      let values := m.values.take m.count.toNat
      (writeCells o m.index values s, { status := if anyClamped o m.index values then .clamped else .done })

/-! ### Plan requests -/

/-- PLAN_START (R119). -/
def planStartAction : Action := fun _ s =>
  if s.plan.state = .running then (s, { status := .busy }) else (startPlan s, { status := .done })

/-- PLAN_STOP (R124). -/
def planStopAction : Action := fun _ s => (stopPlan s, { status := .done })

/-! ### Defect requests -/

/-- Value `k` of a request. -/
def Mgmt.value (m : Mgmt) (k : Nat) : Int := m.values.getD k 0

/-- Values 0 and 1 name a head and a wedge of the table, under a count of 2 (R102, R103). -/
def namesDefect (m : Mgmt) : Bool :=
  m.count.toNat == 2 && decide (0 ≤ m.value 0) && decide (m.value 0 ≤ 23) && decide (0 ≤ m.value 1) &&
    decide (m.value 1 ≤ 511)

/-- DEFECT_ADD (R102). -/
def defectAddAction : Action := fun m s =>
  if namesDefect m then
    match addDefect (m.value 0).toNat (m.value 1).toNat s with
    | (s', .done) => (s', { status := .done })
    | (s', .full) => (s', { status := .full })
  else (s, { status := .range })

/-- DEFECT_REMOVE (R103). -/
def defectRemoveAction : Action := fun m s =>
  if namesDefect m then (removeDefect (m.value 0).toNat (m.value 1).toNat s, { status := .done })
  else (s, { status := .range })

/-- Values 0 and 1 name a scope and a head, or all heads, under a count of 2 (R104). -/
def namesFlush (m : Mgmt) : Bool :=
  m.count.toNat == 2 && decide (1 ≤ m.value 0) && decide (m.value 0 ≤ 3) && decide (-1 ≤ m.value 1) &&
    decide (m.value 1 ≤ 23)

/-- DEFECT_FLUSH (R104). -/
def defectFlushAction : Action := fun m s =>
  if namesFlush m then (flushDefects (m.value 0) (m.value 1) s, { status := .done }) else (s, { status := .range })

/-! ### Requests on the whole part -/

/-- ALERT_CLEAR (R144, R150). -/
def alertClearAction : Action := fun m s =>
  if m.count.toNat = 0 then (s, { status := .range })
  else (clearAlerts (BitVec.ofInt 12 (m.value 0)) s, { status := .done })

/-- All entries of a head set to 0 (R77, R150). -/
def zeroRunout (h : Nat) (s : State) : State :=
  { s with runout := s.runout.filter fun c => c.1 / Config.wedgeCells != h }

/-- RUNOUT_ZERO (R77, R144, R150). -/
def runoutZeroAction : Action := fun m s =>
  if m.count.toNat = 0 ∨ m.value 0 < 0 ∨ 23 < m.value 0 then (s, { status := .range })
  else if boundTo s (m.value 0).toNat then (s, { status := .inuse })
  else (zeroRunout (m.value 0).toNat s, { status := .done })

/-- RESTART (R151). -/
def restartAction : Action := fun _ s => (restartState s, { status := .done })

/-- A request whose code the part does not know (R144). -/
def unknownAction : Action := fun _ s => (s, { status := .unknown })

/-- The execution a request code names (R144). -/
def actionOf (code : Byte) : Action :=
  match code.toNat with
  | 1 => getCells
  | 2 => setCells
  | 3 => planStartAction
  | 4 => planStopAction
  | 5 => defectAddAction
  | 6 => defectRemoveAction
  | 7 => defectFlushAction
  | 8 => alertClearAction
  | 9 => runoutZeroAction
  | 10 => restartAction
  | _ => unknownAction

/-- A MGMT frame at the bench port: checked, and the request it holds taken by `act` (R4, R10, R143). -/
def requestFrame (act : Action) (code object : Byte) (r : Request) (s : State) : State :=
  benchChecked (r.bytes code object) (manage act (readRequest code object r)) s

end Sys2Proof.Machine
end

