-- ==== Sys2Proof/Machine/Demodulator.lean ====
section
/-! DEFINITION. The Demodulator's eight stages and its classes of frame (R21 to R39). -/

namespace Sys2Proof.Machine

/-! ### Stage 1 -/

/-- The frame is WEAK: a burst sum is 0 or below the head's burst floor (R22). -/
def weak (floor : Nat) (f : WedgeRead) : Bool :=
  f.a + f.b == 0 || f.c + f.d == 0 || decide (f.a + f.b < floor) || decide (f.c + f.d < floor)

/-- The FAULT property: SYNC clear, GRAY clear, or WEAK (R23). -/
def faulty (floor : Nat) (f : WedgeRead) : Bool := !f.sync || !f.gray || weak floor f

/-! ### Stages 2 to 4 -/

/-- A normalized difference scaled to 512, rounded (R25). -/
def ratio (x y : Nat) : Int := roundDiv (((x : Int) - y) * 512) (x + y)

/-- The fraction p from the ratios n and q, clamped to -512..+511 (R26). -/
def fraction (n q : Int) : Int :=
  clamp (-512) 511
    (if n.natAbs ≤ q.natAbs then roundDiv n 2
     else if 0 < n then 256 + roundDiv q 2 else -(256 + roundDiv q 2))

/-- The segment k of a fraction (R27). -/
def segment (p : Int) : Nat := (floorDiv (p + 512) 128).toNat

/-- The correction interpolated between the points `c` at a fraction (R27). -/
def linCorrection (c : Nat → Int) (p : Int) : Int :=
  let k := segment p
  c k + floorDiv ((c (k + 1) - c k) * (p - (-512 + 128 * (k : Int)))) 128

/-- The linearized fraction (R27). -/
def linearize (c : Nat → Int) (p : Int) : Int := clamp (-512) 511 (p + linCorrection c p)

/-! ### Stages 5 to 8 -/

/-- The target T, or the centre of the frame's track where the context has no valid target (R28). -/
def target (c : HeadContext) (track : Nat) : Int :=
  if c.targetValid then (c.targetTrack : Int) * 1024 + c.targetOffset else (track : Int) * 1024

/-- The position error E of a frame (R25 to R28). -/
def positionError (lin : Nat → Int) (c : HeadContext) (f : WedgeRead) : Int :=
  (f.track : Int) * 1024 + linearize lin (fraction (ratio f.a f.b) (ratio f.c f.d)) - target c f.track

/-- The unclamped residual E_c of a frame (R29, R30): `offset` is o_eff as the frame uses it. -/
def residual (s : State) (offset : Int) (f : WedgeRead) : Int :=
  let e := positionError (linPoint s f.head) (headContext s f.head) f - offset
  if (headRec s f.head).compEnable then e - runoutEntry s f.head f.wedge else e

/-- The output clamp (R32). -/
def clampOutput (x : Int) : Int := clamp (-32768) 32767 x

/-- The class of a frame and its results (R21): held for DEFECT or FAULT, or demodulated with its E_c. -/
inductive FrameClass where
  | held
  | demodulated (ec : Int)
  deriving DecidableEq, Repr

/-- The frame's class, by the defect table as it stands before the frame's own hit (R21, R23, R24). -/
def classify (s : State) (offset : Int) (f : WedgeRead) : FrameClass :=
  if knownDefect s f.head f.wedge then .held
  else if faulty (headRec s f.head).burstFloor f then .held
  else .demodulated (residual s offset f)

/-- A demodulated frame's mark on the part: the saturated frames counter, the held value and the last good track
(R32, R34). -/
def storeDemodulated (ec : Int) (f : WedgeRead) (s : State) : State :=
  let s₁ := if clampOutput ec ≠ ec then bump .saturatedFrames s else s
  setHeadContext f.head { headContext s f.head with held := clampOutput ec, lastTrack := f.track } s₁

end Sys2Proof.Machine
end

