-- ==== Sys2Proof/Machine/Monitor.lean ====
section
/-! DEFINITION. The Off-Track Monitor: counting, transitions, alerts and notices (R108 to R116). -/

namespace Sys2Proof.Machine

/-- A transition of a head's monitor state (R111). -/
inductive Transition where
  | none
  | trip
  | release
  deriving DecidableEq, Repr

/-- A monitor state, its run count, and the transition a counted frame made. -/
structure MonStep where
  state : MonState
  run : Nat
  transition : Transition
  deriving DecidableEq, Repr

/-- A counted frame's effect on a head's monitor: `beyond` if |E_out| is above T_o (R111). -/
def monitorStep (set : Settings) (beyond : Bool) (c : HeadContext) : MonStep :=
  match c.monitor, beyond with
  | .clear, false => { state := .clear, run := 0, transition := .none }
  | .clear, true =>
    if set.tripCount ≤ 1 then { state := .tripped, run := 0, transition := .trip }
    else { state := .pending, run := 1, transition := .none }
  | .pending, false => { state := .clear, run := 0, transition := .none }
  | .pending, true =>
    if set.tripCount ≤ c.run + 1 then { state := .tripped, run := 0, transition := .trip }
    else { state := .pending, run := c.run + 1, transition := .none }
  | .tripped, false =>
    if set.releaseCount ≤ c.run + 1 then { state := .clear, run := 0, transition := .release }
    else { state := .tripped, run := c.run + 1, transition := .none }
  | .tripped, true => { state := .tripped, run := 0, transition := .none }

/-- The trigger mode raises the alert for a counted frame (R112): 0 ON_TRIP, 1 ON_RELEASE, 2 BOTH, 3 LEVEL. -/
def monitorRaises (mode : Nat) (m : MonStep) : Bool :=
  match m.transition with
  | .trip => mode == 0 || mode == 2 || mode == 3
  | .release => mode == 1 || mode == 2
  | .none => mode == 3 && m.state == .tripped

/-- The trigger mode offers a notice for a transition (R113). -/
def monitorNotifies (mode : Nat) (t : Transition) : Bool :=
  match t with
  | .trip => mode == 0 || mode == 2 || mode == 3
  | .release => mode == 1 || mode == 2
  | .none => false

/-- The code of a transition in an OFFTRACK_NOTICE (R20). -/
def Transition.code : Transition → Nat
  | .none => 0
  | .trip => 1
  | .release => 2

/-- The record of an OFFTRACK_NOTICE (R20, R113). -/
def offtrackNotice (t : Transition) (h w : Nat) (eOut : Int) : List Byte :=
  be 1 t.code ++ be 1 h ++ be 2 w ++ be 2 eOut.natAbs

/-- A counted frame at the monitor: state and run count, alert, notice, and the trip notice to the Plan Controller is the
transition answered (R111 to R113, R115). -/
def monitorCount (h w : Nat) (eOut : Int) (s : State) : State × Transition :=
  let c := headContext s h
  let m := monitorStep s.settings (decide (s.settings.threshold < eOut.natAbs)) c
  let s₁ := setHeadContext h { c with monitor := m.state, run := m.run } s
  let s₂ := if monitorRaises s.settings.triggerMode m then raise .offtrack s₁ else s₁
  let s₃ := if monitorNotifies s.settings.triggerMode m.transition
    then offerReport 4 (offtrackNotice m.transition h w eOut) s₂ else s₂
  (s₃, m.transition)

end Sys2Proof.Machine
end

