-- ==== Sys2Proof/Machine/WedgeHandling.lean ====
section
/-! DEFINITION. The handling of a taken WEDGE frame: eligibility (R16), the six stages (R80), the gates of stage 6 (R83,
R115, R127), the POSITION frame (R18, R35) and the forwarding mode (R17). -/

namespace Sys2Proof.Machine

/-- What stages 1 and 2 settled about a frame, for stage 6. -/
structure FrameFacts where
  props : FrameProps
  clock : ClockResult
  offset : Int
  deriving DecidableEq, Repr

/-- The frame is not SETTLING, not SEEKING and not NOTARGET (R56). -/
def FrameProps.quiet (p : FrameProps) : Bool := !p.settling && !p.seeking && !p.noTarget

/-- The head's monitor stands TRIPPED (R114). -/
def tripped (s : State) (h : Nat) : Bool := (headContext s h).monitor == .tripped

/-- The acceptance conditions of a learning sample, for a demodulated frame counted at the monitor (R83). -/
def sampleAccepted (f : WedgeRead) (k : FrameFacts) (ec : Int) (s : State) : Bool :=
  s.engine.pass == .accumulate && boundTo s f.head && k.clock.lockedOnTime && k.props.quiet &&
    (headRec s f.head).learnEnable && !tripped s f.head && decide (ec.natAbs ≤ s.settings.learnWindow) &&
    decide ((engineCell s f.wedge).count < cellLimit s)

/-- The Runout Engine's judgement of a demodulated frame's sample (R83). -/
def sampleStage (f : WedgeRead) (k : FrameFacts) (ec : Int) (s : State) : State :=
  if sampleAccepted f k ec s then addSample f.wedge ec s else s

/-- A demodulated frame at stage 6: held value and counters, the monitor's count unless SEEKING, the sample, the
contribution (R33, R83, R110, R115, R127). The trip the monitor made, if any, is answered. -/
def demodulatedStage (f : WedgeRead) (k : FrameFacts) (ec : Int) (s : State) : State × Bool :=
  let s₁ := storeDemodulated ec f s
  let (s₂, t) := if k.props.seeking then (s₁, Transition.none) else monitorCount f.head f.wedge (clampOutput ec) s₁
  let s₃ := sampleStage f k ec s₂
  let s₄ := contribute
    { head := f.head, residual := ec, offset := k.offset, output := clampOutput ec, lockedOnTime := k.clock.lockedOnTime
      quietFrame := k.props.quiet, tripped := tripped s₃ f.head } s₃
  (s₄, t == .trip)

/-- A held frame at stage 6: it counts as held, and is a hit if it is FAULT and the head's defect-learn enable is set
(R35, R37, R95). -/
def heldStage (f : WedgeRead) (fault : Bool) (s : State) : State :=
  let s₁ := bump .heldFrames s
  if fault && (headRec s f.head).defectLearn then recordHit f.head f.wedge s₁ else s₁

/-- The flags of a taken frame's POSITION, less OFFTRACK and ATTENTION: by class (the table of section 2.10). -/
def takenFlags (k : FrameFacts) (fault defect saturated compensated : Bool) : PositionFlags :=
  { held := fault || defect, defect := defect, fault := fault, settling := k.props.settling, seeking := k.props.seeking
    noTarget := k.props.noTarget, saturated := saturated, compensated := compensated
    early := k.clock.ruling == .early || k.clock.ruling == .slip, late := k.clock.ruling == .late }

/-- Stage 6 up to the POSITION: the frame classed, demodulated or held, counted at the monitor, sampled; then SETTLE's watch
of the monitor. The POSITION's contents, less OFFTRACK and ATTENTION, are answered (R21, R33, R35, R80, R115). -/
def frameStage (f : WedgeRead) (k : FrameFacts) (s : State) : State × Position :=
  let fault := faulty (headRec s f.head).burstFloor f
  let defect := knownDefect s f.head f.wedge
  match classify s k.offset f with
  | .held =>
    let eOut := (headContext s f.head).held
    let s₁ := heldStage f fault s
    (settleWatch f.head (tripped s₁ f.head) false s₁,
      { head := f.head, wedge := f.wedge, track := f.track, eOut := eOut, flags := takenFlags k fault defect false false })
  | .demodulated ec =>
    let (s₁, trip) := demodulatedStage f k ec s
    (settleWatch f.head (tripped s₁ f.head) trip s₁,
      { head := f.head, wedge := f.wedge, track := f.track, eOut := clampOutput ec
        flags := takenFlags k false false (clampOutput ec != ec) (headRec s f.head).compEnable })

/-- What an eligible frame puts into the LOOP class, by its head's forwarding mode (R17); OFFTRACK from the monitor after the
frame, ATTENTION from the alerts (R18, R114). The forwarded WEDGE is offered here, after stage 6 (log 6). -/
def forward (bytes : Frame) (p : Position) (s : State) : State :=
  let p' := { p with flags := { p.flags with offtrack := tripped s p.head } }
  match (headRec s p.head).mode with
  | .raw => offerLoop bytes s
  | .corrected => offerPosition p' s
  | .both => offerPosition p' (offerLoop bytes s)

/-- An eligible WEDGE frame, stage by stage (R80). The effective offset is read after the apply of stage 3 and before an
OFFSET result is written at stage 4 (R47, R128). Stage 4 reads what a HOLD taken before the frame left (R57, R86). -/
def handleWedge (arrival : Nat) (f : WedgeRead) (bytes : Frame) (s : State) : State :=
  let (s₁, props) := contextStage f.head s
  let (s₂, clock) := clockStage arrival f.head f.wedge f.index s₁
  let (s₃, after) := applyStage f.head f.index s₂
  let offset := effectiveOffset s₃ f.head
  let s₄ := planStage f.head clock.event after s₃
  let s₅ := engineStage f.head clock.event (after == some .further) s₄
  let (s₆, p) := frameStage f { props := props, clock := clock, offset := offset } s₅
  forward bytes p (passTargetChange f.head s₆)

/-- A WEDGE frame that is not eligible: counted by cause, given to the clock if its wedge index is below W (a completed
revolution event among its effects then reaches the blocks that use it: log 8), and forwarded unchanged (R16, R59, R72;
log 6). -/
def passWedge (arrival : Nat) (f : WedgeRead) (bytes : Frame) (s : State) : State :=
  let s₁ := if s.settings.headCount ≤ f.head then bump .foreignHead s else s
  if s.settings.wedges ≤ f.wedge then offerLoop bytes (bump .wedgeRange s₁)
  else
    let (s₂, clock) := clockStage arrival f.head f.wedge f.index s₁
    let s₃ := planStage f.head clock.event none s₂
    offerLoop bytes (engineStage f.head clock.event false s₃)

/-- A WEDGE frame taken at the front port. The windows that closed before its arrival are closed first (R15, R16, R65;
log 5). -/
def takeWedge (arrival : Nat) (f : WedgeRead) (bytes : Frame) (s : State) : State :=
  let s₁ := closePast arrival Config.maxMisses s
  if eligible s₁ f.head f.wedge then handleWedge arrival f bytes s₁ else passWedge arrival f bytes s₁

end Sys2Proof.Machine
end

