-- ==== Sys2Proof/Machine/Sorting.lean ====
section
/-! DEFINITION. A taken frame sent on by its kind (R10, R11, R13). -/

namespace Sys2Proof.Machine

/-- A HOLD frame taken at the bench port: read by the Context Store, then offered to the front-port transmit FIFO unchanged
(R13, R52). -/
def takeHold (f : HoldRead) (bytes : Frame) (s : State) : State := offerFifo bytes (readHoldFrame f s)

/-- A frame taken at the front port, sent on by its kind (R10, R11). -/
def sortFront (arrival : Nat) (bytes : Frame) (s : State) : State :=
  if frameKind bytes = Config.kindWedge then takeWedge arrival (readWedge (wedgeFromBytes bytes)) bytes s
  else offerStatus bytes s

/-- A frame taken at the bench port, sent on by its kind (R10, R11). -/
def sortBench (bytes : Frame) (s : State) : State :=
  if frameKind bytes = Config.kindHold then takeHold (readHold (holdFromBytes bytes)) bytes s
  else if frameKind bytes = Config.kindMgmt then
    manage (actionOf (requestCode bytes))
      (readRequest (requestCode bytes) (requestObject bytes) (requestFromBytes bytes)) s
  else offerFifo bytes s

end Sys2Proof.Machine
end

