-- ==== Sys2Proof/Machine/FrameCommands.lean ====
section
/-! DEFINITION. The meanings of the commands that bring a frame to a port, management requests aside: WEDGE, FESTAT,
UNKNOWN_KIND_UPSTREAM, FECMD, HOLD, UNKNOWN_KIND_DOWNSTREAM. -/

namespace Sys2Proof.Machine

/-- WEDGE (R4, R15, R16). -/
def execWedge (arrival : Nat) (frame : WedgeFrame) (s : State) : Host.Outcome State Fault Refusal :=
  .next (frontChecked frame.bytes (takeWedge arrival (readWedge frame) frame.bytes) s)

/-- FESTAT: offered unchanged to the STATUS class (R4, R10). -/
def execFestat (frame : OpaqueFrame) (s : State) : Host.Outcome State Fault Refusal :=
  .next (frontChecked (frame.bytes Config.kindFestat) (offerStatus (frame.bytes Config.kindFestat)) s)

/-- UNKNOWN_KIND_UPSTREAM: the delimited bytes are checked; a frame that passes is sent on by its kind, an unknown kind to
the STATUS class unchanged (R4, R10, R11; log 9). -/
def execUnknownKindUpstream (arrival : Nat) (bytes : Frame) (s : State) : Host.Outcome State Fault Refusal :=
  .next (frontChecked bytes (sortFront arrival bytes) s)

/-- FECMD: offered unchanged to the front-port transmit FIFO (R4, R10, R12). -/
def execFecmd (frame : OpaqueFrame) (s : State) : Host.Outcome State Fault Refusal :=
  .next (benchChecked (frame.bytes Config.kindFecmd) (offerFifo (frame.bytes Config.kindFecmd)) s)

/-- HOLD: read by the Context Store, then offered unchanged to the front-port transmit FIFO (R4, R13, R52). -/
def execHold (frame : HoldFrame) (s : State) : Host.Outcome State Fault Refusal :=
  .next (benchChecked frame.bytes (takeHold (readHold frame) frame.bytes) s)

/-- UNKNOWN_KIND_DOWNSTREAM: the delimited bytes are checked; a frame that passes is sent on by its kind, an unknown kind to
the front-port transmit FIFO unchanged (R4, R10, R11; log 9). -/
def execUnknownKindDownstream (bytes : Frame) (s : State) : Host.Outcome State Fault Refusal :=
  .next (benchChecked bytes (sortBench bytes) s)

end Sys2Proof.Machine
end

