-- ==== Sys2Proof/Machine/RequestCommands.lean ====
section
/-! DEFINITION. The meanings of the management requests: each a MGMT frame at the bench port whose request code, and for the
SET rows of one object whose object code, the row fixes (R144, R145). -/

namespace Sys2Proof.Machine

/-- GET (R146). -/
def execGet (object : Byte) (r : Request) (s : State) : Host.Outcome State Fault Refusal :=
  .next (requestFrame getCells 1 object r s)

/-- SET of an object with no row of its own (R147). -/
def execSet (object : Byte) (r : Request) (s : State) : Host.Outcome State Fault Refusal :=
  .next (requestFrame setCells 2 object r s)

/-- SET of COUNTER cells (R149). -/
def execSetCounter (r : Request) (s : State) : Host.Outcome State Fault Refusal :=
  .next (requestFrame setCells 2 8 r s)

/-- SET of ALERT index 1, the mask (R154). -/
def execSetAlertMask (r : Request) (s : State) : Host.Outcome State Fault Refusal :=
  .next (requestFrame setCells 2 9 r s)

/-- SET of settings, W among them (R148). -/
def execSetWedgesPerRevolution (r : Request) (s : State) : Host.Outcome State Fault Refusal :=
  .next (requestFrame setCells 2 1 r s)

/-- SET of head record fields (R41, R42). -/
def execSetHeadrec (r : Request) (s : State) : Host.Outcome State Fault Refusal :=
  .next (requestFrame setCells 2 2 r s)

/-- PLAN_START (R119). -/
def execPlanStart (object : Byte) (r : Request) (s : State) : Host.Outcome State Fault Refusal :=
  .next (requestFrame planStartAction 3 object r s)

/-- PLAN_STOP (R124). -/
def execPlanStop (object : Byte) (r : Request) (s : State) : Host.Outcome State Fault Refusal :=
  .next (requestFrame planStopAction 4 object r s)

/-- DEFECT_ADD (R102). -/
def execDefectAdd (object : Byte) (r : Request) (s : State) : Host.Outcome State Fault Refusal :=
  .next (requestFrame defectAddAction 5 object r s)

/-- DEFECT_REMOVE (R103). -/
def execDefectRemove (object : Byte) (r : Request) (s : State) : Host.Outcome State Fault Refusal :=
  .next (requestFrame defectRemoveAction 6 object r s)

/-- DEFECT_FLUSH (R104). -/
def execDefectFlush (object : Byte) (r : Request) (s : State) : Host.Outcome State Fault Refusal :=
  .next (requestFrame defectFlushAction 7 object r s)

/-- ALERT_CLEAR (R150). -/
def execAlertClear (object : Byte) (r : Request) (s : State) : Host.Outcome State Fault Refusal :=
  .next (requestFrame alertClearAction 8 object r s)

/-- RUNOUT_ZERO (R77, R150). -/
def execRunoutZero (object : Byte) (r : Request) (s : State) : Host.Outcome State Fault Refusal :=
  .next (requestFrame runoutZeroAction 9 object r s)

/-- RESTART (R151). -/
def execRestart (object : Byte) (r : Request) (s : State) : Host.Outcome State Fault Refusal :=
  .next (requestFrame restartAction 10 object r s)

/-- A MGMT frame whose request code the part does not know; a code it does know names its request all the same (R144;
log 9). -/
def execUnknownRequest (code object : Byte) (r : Request) (s : State) : Host.Outcome State Fault Refusal :=
  .next (requestFrame (actionOf code) code object r s)

end Sys2Proof.Machine
end

