-- ==== Sys2Proof/Machine/Dispatch.lean ====
section
/-! DEFINITION. The effect of a command on everything but the queue: one arm per row of spec/opcode_table.json, each one call of
the command's meaning. -/

namespace Sys2Proof.Machine

def exec (i : Instr) (s : State) : Host.Outcome State Fault Refusal :=
  match i with
  | .powerOnReset => Sys2Proof.Machine.execPowerOnReset s
  | .wedge arrival frame => Sys2Proof.Machine.execWedge arrival frame s
  | .festat frame => Sys2Proof.Machine.execFestat frame s
  | .unknownKindUpstream arrival bytes => Sys2Proof.Machine.execUnknownKindUpstream arrival bytes s
  | .fecmd frame => Sys2Proof.Machine.execFecmd frame s
  | .hold frame => Sys2Proof.Machine.execHold frame s
  | .unknownKindDownstream bytes => Sys2Proof.Machine.execUnknownKindDownstream bytes s
  | .get object request => Sys2Proof.Machine.execGet object request s
  | .set object request => Sys2Proof.Machine.execSet object request s
  | .setCounter request => Sys2Proof.Machine.execSetCounter request s
  | .setAlertMask request => Sys2Proof.Machine.execSetAlertMask request s
  | .setWedgesPerRevolution request => Sys2Proof.Machine.execSetWedgesPerRevolution request s
  | .setHeadrec request => Sys2Proof.Machine.execSetHeadrec request s
  | .planStart object request => Sys2Proof.Machine.execPlanStart object request s
  | .planStop object request => Sys2Proof.Machine.execPlanStop object request s
  | .defectAdd object request => Sys2Proof.Machine.execDefectAdd object request s
  | .defectRemove object request => Sys2Proof.Machine.execDefectRemove object request s
  | .defectFlush object request => Sys2Proof.Machine.execDefectFlush object request s
  | .alertClear object request => Sys2Proof.Machine.execAlertClear object request s
  | .runoutZero object request => Sys2Proof.Machine.execRunoutZero object request s
  | .restart object request => Sys2Proof.Machine.execRestart object request s
  | .unknownRequest code object request => Sys2Proof.Machine.execUnknownRequest code object request s
  | .wedgeMissed => Sys2Proof.Machine.execWedgeMissed s
  | .idleTimeout => Sys2Proof.Machine.execIdleTimeout s
  | .timeoutWait => Sys2Proof.Machine.execTimeoutWait s
  | .budgetRefreshTimerExpiry => Sys2Proof.Machine.execBudgetRefreshTimerExpiry s
  | .frontTransmitEnd => Sys2Proof.Machine.execFrontTransmitEnd s
  | .benchTransmitEnd => Sys2Proof.Machine.execBenchTransmitEnd s

end Sys2Proof.Machine
end

