-- ==== Sys2Proof/Safety.lean ====
section
/-! DEFINITION. What the statements speak of: the frame a command brings to a port, the request it carries, rounding as the
manual states it, and the invariants of the part's state, block by block. -/

namespace Sys2Proof.Safety

open Sys2Proof.Machine

/-! ### Commands -/

/-- The bytes a command brings to the front port. -/
def frontFrame : Instr → Option Frame
  | .wedge _ f => some f.bytes
  | .festat f => some (f.bytes Config.kindFestat)
  | .unknownKindUpstream _ bytes => some bytes
  | _ => none

/-- The request code, object code and other fields of the MGMT frame a command's row is. -/
def requestOf : Instr → Option (Byte × Byte × Request)
  | .get object r => some (1, object, r)
  | .set object r => some (2, object, r)
  | .setCounter r => some (2, 8, r)
  | .setAlertMask r => some (2, 9, r)
  | .setWedgesPerRevolution r => some (2, 1, r)
  | .setHeadrec r => some (2, 2, r)
  | .planStart object r => some (3, object, r)
  | .planStop object r => some (4, object, r)
  | .defectAdd object r => some (5, object, r)
  | .defectRemove object r => some (6, object, r)
  | .defectFlush object r => some (7, object, r)
  | .alertClear object r => some (8, object, r)
  | .runoutZero object r => some (9, object, r)
  | .restart object r => some (10, object, r)
  | .unknownRequest code object r => some (code, object, r)
  | _ => none

/-- The bytes a command brings to the bench port. -/
def benchFrame (c : Instr) : Option Frame :=
  match requestOf c with
  | some (code, object, r) => some (r.bytes code object)
  | none =>
    match c with
    | .fecmd f => some (f.bytes Config.kindFecmd)
    | .hold f => some f.bytes
    | .unknownKindDownstream bytes => some bytes
    | _ => none

/-- The command is a MGMT frame that passes the checks on arrival and finds room for its answer (R4, R136). -/
structure Admitted (c : Instr) (code object : Byte) (r : Request) (s : State) : Prop where
  request : requestOf c = some (code, object, r)
  taken : linkCheck .bench (r.bytes code object) = none
  room : s.out.answer.length < 4

/-- A WEDGE frame that passes the checks on arrival, while no window is left that closed before it (R4, R65). A frame that
comes later than its window's closing is brought back to this case by Obligations.MissedWedgeCoastsOrLosesTheClock (log 5). -/
structure Arrives (arrival : Nat) (f : WedgeFrame) (s : State) : Prop where
  taken : linkCheck .front f.bytes = none
  windows : windowPast arrival s.clock = false

/-- The kind code is none of the eight the part knows (R2). -/
def unknownKind (k : Byte) : Bool := !([0x21, 0x22, 0x31, 0x32, 0x41, 0x51, 0x53, 0x54] : List Byte).contains k

/-! ### Words of the manual -/

/-- `q` is the quotient x / d rounded to the nearest integer, halves away from zero (spec/00, "Rounding and division"). -/
def Rounded (q x : Int) (d : Nat) : Prop :=
  2 * |q * d - x| ≤ d ∧ (2 * |q * d - x| = d → |x| < |q * d|)

/-- A counter's value after `n` more events (R156). -/
def saturated (c n : Nat) : Nat := min (c + n) 65535

/-- What enters the LOOP class for an eligible frame of a head in a mode (R17). -/
def loopFrames (mode : FwdMode) (wedge position : Frame) : List Frame :=
  match mode with
  | .raw => [wedge]
  | .corrected => [position]
  | .both => [wedge, position]

/-- The settle remaining against which a frame of head `h` is judged: S after a head switch (R49, R51). -/
def settleFound (s : State) (h : Nat) : Nat :=
  if s.activeHead = some h then (headContext s h).settle else s.settings.switchSettle

/-- The error E_c of a WEDGE frame, stage by stage (R25 to R30), against the tables, target and offset of a state. -/
def unclampedError (s : State) (f : WedgeRead) : Int :=
  let c := headContext s f.head
  let p := fraction (ratio f.a f.b) (ratio f.c f.d)
  let x := (f.track : Int) * 1024 + linearize (linPoint s f.head) p
  let t := if c.targetValid then (c.targetTrack : Int) * 1024 + c.targetOffset else (f.track : Int) * 1024
  let e := x - t - effectiveOffset s f.head
  if (headRec s f.head).compEnable then e - runoutEntry s f.head f.wedge else e

/-- The ruling of the clock as it stands on a frame (R65 to R69). -/
def rulingOn (arrival : Nat) (f : WedgeRead) (s : State) : Ruling :=
  if s.clock.state.running then ruleFrame s.clock arrival f.wedge f.index else .unruled

/-- What a SET stores in a cell: 0 in a COUNTER, the twelve lowest positions in the ALERT mask, the clamped value elsewhere
(R147, R149, R154). -/
def setResult (o : Obj) (k : Nat) (v : Int) : Int :=
  match o with
  | .counter => 0
  | .alert => v % 4096
  | _ => storedValue o k v

/-- The code of a phase (R117). -/
def phaseByte : Phase → Byte
  | .none => 0
  | .settle => 1
  | .offset => 2
  | .learn => 3
  | .verify => 4

/-- Item `k` of a table of the manual, 0 past its end. -/
def item (items : List Int) (k : Nat) : Int := items.getD k 0

/-- A number, or -1 for none (R149). -/
def orNone (n : Option Nat) : Int := n.elim (-1) (fun n => n)

/-- What each cell reads, object by object, as the manual's tables number them: SETTING (R148), HEADREC (R41), LINTAB (R44),
RUNOUT (R76), DEFECT (R105), PLANSTEP (R117), STATE, COUNTER and ALERT (R149). A cell without an item reads 0. -/
def cellValue (s : State) (o : Obj) (k : Nat) : Int :=
  match o with
  | .setting =>
    let t := s.settings
    item [t.headCount, t.wedges, t.windowCode, t.lossLimit, t.idleTime, t.switchSettle, t.learnWindow, t.threshold, t.tripCount,
      t.releaseCount, t.triggerMode, t.confirmThreshold, t.ageLimit, t.reportLimit] k
  | .headrec =>
    let r := headRec s (k / 16)
    item [if r.enabled then 1 else 0,
      match r.mode with
        | .raw => 0
        | .corrected => 1
        | .both => 2,
      r.burstFloor, if r.compEnable then 1 else 0, if r.learnEnable then 1 else 0, if r.defectLearn then 1 else 0,
      if r.source = .track then 1 else 0, r.ownOffset, r.refHead, r.offsetDiff, if r.offsetValid then 1 else 0,
      effectiveOffset s (k / 16)] (k % 16)
  | .lintab => linPoint s (k / 9) (k % 9)
  | .runout => runoutEntry s (k / 512) (k % 512)
  | .defect =>
    match Table.find? s.defects (k / 4) with
    | none => 0
    | some e =>
      item [e.head, e.wedge,
        match e.state with
          | .static => 1
          | .suspect => 2
          | .confirmed => 3,
        e.hits * 256 + e.quiet] (k % 4)
  | .planstep =>
    let p := planStep s (k / 16)
    item [(phaseByte p.phase).toNat, p.head, p.m, p.passes, p.gain, p.limitA, p.limitB, if p.fold then 1 else 0,
      if p.onFail = .stop then 1 else 0, p.timeout] (k % 16)
  | .state =>
    item [match s.clock.state with
        | .unlocked => 0
        | .acquiring => 1
        | .locked => 2
        | .coasting => 3
        | .lost => 4,
      s.clock.revLength, s.clock.period, s.clock.remainder, s.clock.stamp.toNat, orNone s.activeHead,
      match s.plan.state with
        | .idle => 0
        | .running => 1
        | .ended => 2,
      orNone s.plan.current,
      match s.plan.sub with
        | none => 0
        | some .waiting => 1
        | some .active => 2,
      orNone (s.engine.binding.map fun b => b.head),
      match s.engine.pass with
        | .unbound => 0
        | .ready => 1
        | .accumulate => 2
        | .solve => 3,
      s.engine.passNumber, s.defects.length,
      match s.out.budget with
        | .unlimited => -1
        | .left n => n,
      s.clock.missCount] k
  | .counter => readCounter s k
  | .alert => item [s.alerts.flags.toNat, s.alerts.mask.toNat] k

/-- The link summary of a latch: bit 0 CRC, 1 LENGTH, 2 MISDIRECTED, 3 FIFO_DROP (R20). -/
def summary (l : Latch) : Nat :=
  (if l.crc then 1 else 0) + (if l.length then 2 else 0) + (if l.misdirected then 4 else 0) + (if l.fifoDrop then 8 else 0)

/-- The ANSWER frame with the given code, token, status, link summary, attention, object, index and values (R19, R20). -/
def answerBytes (code token : Byte) (status : Nat) (latch : Latch) (attn : Bool) (object : Byte) (index : BitVec 16)
    (values : List Int) : Frame :=
  buildFrame 0x53 ([code, token, BitVec.ofNat 8 status, BitVec.ofNat 8 (summary latch), if attn then 1 else 0, object,
    BitVec.ofNat 8 values.length] ++ be 2 index.toNat ++ values.flatMap (beInt 4))

/-- The REPORT frame with the given kind, stamp and record (R19, R20). -/
def reportBytes (kind : Byte) (stamp : BitVec 16) (record : List Byte) : Frame :=
  buildFrame 0x54 ([kind] ++ be 2 stamp.toNat ++ [BitVec.ofNat 8 record.length] ++ record)

/-- A state once its answer has been admitted behind the waiting ones: the latch is clear (R9, R136). -/
def answered (frame : Frame) (s : State) : State :=
  { s with link := { s.link with latch := {} }, out := { s.out with answer := s.out.answer ++ [frame] } }

/-- The flags value with the flags at the given positions set as well (R152). -/
def raised (flags : BitVec 12) (positions : List Nat) : BitVec 12 :=
  positions.foldl (fun f k => f ||| BitVec.twoPow 12 k) flags

/-- The counters with the one at an index increased by `n` (R156). -/
def counted (s : State) (k n : Nat) : Table Nat :=
  Table.set 0 s.alerts.counters k (saturated (readCounter s k) n)

/-- The wait timer as a step starts it (R120). -/
def timerOf (p : PlanStep) : Option Nat := if p.timeout = 0 then none else some p.timeout

/-- The round class a position names, as the manual's table lists them (R142). -/
def classAt (position : Nat) : RoundClass :=
  ([.answer, .answer, .answer, .answer, .report, .report, .status] : List RoundClass).getD position .status

/-- The frames waiting in a class (R134). -/
def waiting (o : Output) : RoundClass → List Frame
  | .answer => o.answer
  | .report => o.report
  | .status => o.status

/-- The scheduler once the oldest frame of a class has been granted by the round (R142). -/
def served (o : Output) : RoundClass → Output
  | .answer => { o with answer := o.answer.drop 1, sending := o.answer[0]?, round := (o.round + 1) % 7 }
  | .report => { o with report := o.report.drop 1, sending := o.report[0]?, round := (o.round + 1) % 7 }
  | .status => { o with status := o.status.drop 1, sending := o.status[0]?, round := (o.round + 1) % 7 }

/-- The state after commands run one after another. -/
def runs : List Instr → State → Option State
  | [], s => some s
  | c :: cs, s =>
    match exec c s with
    | .next t => runs cs t
    | _ => none

/-- The head and wedge have no entry in the table (R94). -/
def Unlisted (t : Table DefectEntry) (h w : Nat) : Prop := ∀ c ∈ t, ¬(c.2.head = h ∧ c.2.wedge = w)

/-- The slot is the lowest-numbered empty one (R94). -/
def LowestEmpty (t : Table DefectEntry) (k : Nat) : Prop :=
  k < 256 ∧ Table.find? t k = none ∧ ∀ j < k, Table.find? t j ≠ none

/-- Every slot is occupied (R98). -/
def Full (t : Table DefectEntry) : Prop := ∀ j < 256, Table.find? t j ≠ none

/-- The SUSPECT entry eviction takes: none has a larger quiet, and none of equal quiet a lower slot (R98). -/
def Oldest (t : Table DefectEntry) (k : Nat) (e : DefectEntry) : Prop :=
  Table.find? t k = some e ∧ e.state = .suspect ∧
    ∀ c ∈ t, c.2.state = .suspect → c.2.quiet < e.quiet ∨ (c.2.quiet = e.quiet ∧ k ≤ c.1)

/-- Slot `k` holds `e`, and every other slot is as it was. -/
def OnlySlot (before after : Table DefectEntry) (k : Nat) (e : DefectEntry) : Prop :=
  Table.find? after k = some e ∧ ∀ j, j ≠ k → Table.find? after j = Table.find? before j

/-! ### What a WEDGE frame meets and leaves beyond its own head -/

/-- The command brings the given head an index frame that is taken and eligible (R4, R16; the bytes decide: log 9). -/
def BringsIndexFrame (c : Instr) (h : Nat) (s : State) : Prop :=
  ∃ bytes, frontFrame c = some bytes ∧ linkCheck .front bytes = none ∧ frameKind bytes = 0x21 ∧
    (readWedge (wedgeFromBytes bytes)).index = true ∧ (readWedge (wedgeFromBytes bytes)).head = h ∧
    eligible s h (readWedge (wedgeFromBytes bytes)).wedge = true

/-- The state whose entries and offsets a frame is computed against: an index frame of the bound head first applies the
pending solve, entries and fold (R30, R47, R80, R89). -/
def computedAgainst (s : State) (f : WedgeRead) : State :=
  match s.engine.params, s.engine.pendingSolve with
  | some p, some v =>
    if f.index = true ∧ s.engine.pass = .solve ∧ boundTo s f.head = true then
      let u := writeEntries f.head v.entries s
      if p.fold = true then foldOffset f.head v.meanFold u else u
    else s
  | _, _ => s

/-- What OFFSET, VERIFY and learning ask of a frame alike: demodulated; locked on time; not SETTLING, SEEKING or NOTARGET;
the head's learn enable set (R83, R127). -/
def measurable (arrival : Nat) (f : WedgeRead) (s : State) : Bool :=
  let c := headContext s f.head
  !knownDefect s f.head f.wedge && !faulty (headRec s f.head).burstFloor f && s.clock.state == .locked &&
    rulingOn arrival f s == .onTime && settleFound s f.head == 0 && !c.seeking && c.targetValid &&
    (headRec s f.head).learnEnable

/-- What learning asks of a frame besides an accumulating pass of its head and room in its cell: `measurable`, the head not
TRIPPED after the frame, |E_c| at most the learn window (R83). `t` is the state after the frame. -/
def sampleable (arrival : Nat) (f : WedgeRead) (s t : State) : Bool :=
  measurable arrival f s && (headContext t f.head).monitor != .tripped &&
    decide ((unclampedError (computedAgainst s f) f).natAbs ≤ s.settings.learnWindow)

/-- The cells of a pass that begins at a frame: empty, but for the frame's own sample (R81, R83, R90). -/
def FreshCells (arrival : Nat) (f : WedgeRead) (s t : State) : Prop :=
  ∀ k, engineCell t k =
    if k = f.wedge ∧ sampleable arrival f s t = true
    then { sum := unclampedError (computedAgainst s f) f, count := 1 } else {}

/-- The engine as a frame without INDEX finds it after its notices: a slip, or a switch away from the bound head, has ended a
running accumulation (R50, R73, R85). -/
def engineFound (arrival : Nat) (f : WedgeRead) (s : State) : Engine :=
  let left := match s.activeHead with
    | some g => g != f.head && boundTo s g
    | none => false
  if s.engine.pass = .accumulate ∧ (rulingOn arrival f s = .slip ∨ left = true)
  then { s.engine with cells := [], revs := 0, pass := .ready } else s.engine

/-- The plan as a frame without INDEX finds it after its notices: a slip, or a switch away from the step's head, has returned
an ACTIVE step to WAITING (R50, R73, R122). -/
def planFound (arrival : Nat) (f : WedgeRead) (s : State) : Plan :=
  let left := match s.activeHead with
    | some g => g != f.head && stepHead s == some g
    | none => false
  match s.plan.current, s.plan.sub with
  | some n, some .active =>
    if rulingOn arrival f s = .slip ∨ left = true
    then { s.plan with sub := some .waiting, regs := {}, waitTimer := timerOf (planStep s n) } else s.plan
  | _, _ => s.plan

/-- The registers of an ACTIVE step after a frame of its head (R126 to R129): SETTLE marks a head that stands TRIPPED and
counts its trip; OFFSET adds E_c + o_eff, VERIFY |E_out|, of a `measurable` frame, VERIFY none of a TRIPPED head. `t` is the
state after the frame. -/
def fed (arrival : Nat) (f : WedgeRead) (s t : State) (phase : Phase) (r : Registers) : Registers :=
  let u := computedAgainst s f
  let ec := unclampedError u f
  let size := (max (-32768) (min 32767 ec)).natAbs
  let tripped := (headContext t f.head).monitor == .tripped
  match phase with
  | .settle => { r with
      settleMark := r.settleMark || tripped
      settleTrips := r.settleTrips + (if tripped && (headContext s f.head).monitor != .tripped then 1 else 0) }
  | .offset =>
    if measurable arrival f s && decide (r.offsetCount < 65535) then { r with
      offsetSum := r.offsetSum + (ec + effectiveOffset u f.head)
      offsetCount := r.offsetCount + 1 }
    else r
  | .verify =>
    if measurable arrival f s && !tripped && decide (r.verifyCount < 65535) then { r with
      verifyGreatest := max r.verifyGreatest size
      verifySum := r.verifySum + size
      verifyCount := r.verifyCount + 1 }
    else r
  | .none => r
  | .learn => r

/-- A plan once a frame has been fed to its step, if that is ACTIVE on the frame's head (R126 to R129). -/
def fedPlan (arrival : Nat) (f : WedgeRead) (s t : State) (p : Plan) : Plan :=
  match p.current, p.sub with
  | some n, some .active =>
    if (planStep s n).head = f.head then { p with regs := fed arrival f s t (planStep s n).phase p.regs } else p
  | _, _ => p

/-- An eligible frame is one at which a WAITING step becomes ACTIVE: a completed revolution event of the step's head, the
clock LOCKED after its ruling, a valid target, no seek, no settle frame left after this one (R56, R121), and no HOLD without
SEEK that changed the target directly before it, taken with S above 0 (R57, R86; that this exception limits R121: log 23). -/
def becomesActive (arrival : Nat) (f : WedgeRead) (s : State) : Bool :=
  let c := headContext s f.head
  let ruling := rulingOn arrival f s
  f.index && (s.clock.state == .locked || s.clock.state == .coasting) &&
    (ruling == .onTime || (ruling == .late && s.clock.state == .locked)) && stepHead s == some f.head &&
    c.targetValid && !c.seeking && !c.retargeted && decide (settleFound s f.head ≤ 1)

/-- What a notice that ends the measurement of the current step `n` does: the step WAITING with cleared registers and its
timer started again, its tallies kept; an accumulation on its head thrown away under the same pass number and counted;
anything else of the engine left (R85, R122). -/
structure MeasurementDiscarded (s t : State) (n : Nat) : Prop where
  plan : t.plan = { s.plan with sub := some .waiting, regs := {}, waitTimer := timerOf (planStep s n) }
  accumulating : boundTo s (planStep s n).head = true → s.engine.pass = .accumulate →
    t.engine = { s.engine with cells := [], revs := 0, pass := .ready } ∧
      readCounter t 19 = saturated (readCounter s 19) 1
  other : s.engine.pass ≠ .accumulate → t.engine = s.engine ∧ readCounter t 19 = readCounter s 19

/-- What a departure of the clock from LOCKED or COASTING does to learning and plan (R73): a running accumulation is thrown away
under the same pass number and counted (R85), an ACTIVE step goes back to WAITING with cleared registers, its timer started
again and its tallies kept (R122); any other pass and a step that is not ACTIVE stand. -/
structure ClockLossNoticed (s t : State) : Prop where
  accumulating : s.engine.pass = .accumulate →
    t.engine = { s.engine with cells := [], revs := 0, pass := .ready } ∧
      readCounter t 19 = saturated (readCounter s 19) 1
  otherPass : s.engine.pass ≠ .accumulate → t.engine = s.engine ∧ readCounter t 19 = readCounter s 19
  active : ∀ n, s.plan.current = some n → s.plan.sub = some .active →
    t.plan = { s.plan with sub := some .waiting, regs := {}, waitTimer := timerOf (planStep s n) }
  notActive : s.plan.sub ≠ some .active → t.plan = s.plan

/-- The current step `n` ended and the plan advanced (R123): the tallies of the run, the alert (9 STEP_DONE, 10
STEP_FAILED), the steps failed counter, and the next step or the plan's end. -/
structure StepEnded (s t : State) (n : Nat) (failed : Bool) : Prop where
  last : t.plan.last = some n
  ended : t.plan.ended = s.plan.ended + 1
  failures : t.plan.failed = if failed then s.plan.failed + 1 else s.plan.failed
  counter : readCounter t 23 = if failed then saturated (readCounter s 23) 1 else readCounter s 23
  alert : t.alerts.flags.getLsbD (if failed then 10 else 9) = true
  advance : if (failed = true ∧ (planStep s n).onFail = .stop) ∨ n = 31 ∨ (planStep s (n + 1)).phase = .none
    then t.plan.state = .ended ∧ t.plan.current = none ∧ t.plan.sub = none ∧ t.alerts.flags.getLsbD 11 = true
    else t.plan.state = s.plan.state ∧ t.plan.current = some (n + 1)

/-- The current step `n` goes on, ACTIVE. -/
structure StepGoesOn (s t : State) (n : Nat) : Prop where
  current : t.plan.current = some n ∧ t.plan.sub = some .active ∧ t.plan.state = s.plan.state
  run : t.plan.ended = s.plan.ended ∧ t.plan.failed = s.plan.failed ∧ t.plan.last = s.plan.last
  counter : readCounter t 23 = readCounter s 23

/-- The record of a STEP_RESULT (R20). -/
def resultRecord (n head : Nat) (phase outcome : Byte) (figure₁ figure₂ figure₃ : Int) : List Byte :=
  be 1 n ++ [phase] ++ be 1 head ++ [outcome] ++ beInt 4 figure₁ ++ beInt 4 figure₂ ++ beInt 4 figure₃

/-- The three figures of a step that ends before its measurement does, ABORTED or TIMEOUT_WAIT (R131). SETTLE: revolutions used,
trips seen, clean run; OFFSET: 0, the head's effective offset, the count; LEARN: passes applied, largest change, fold total;
VERIFY: greatest and mean |E_out|, the count. -/
def unfinishedFigures (s : State) (p : PlanStep) : Int × Int × Int :=
  let g := s.plan.regs
  match p.phase with
  | .none => (0, 0, 0)
  | .settle => (g.settleUsed, g.settleTrips, g.settleClean)
  | .offset => (0, effectiveOffset s p.head, g.offsetCount)
  | .learn => (s.plan.tallies.applied, s.plan.tallies.largest, s.plan.tallies.foldTotal)
  | .verify => (g.verifyGreatest, if g.verifyCount = 0 then 0 else g.verifySum / g.verifyCount, g.verifyCount)

/-- The record of a DEFECT_NOTICE (R20). -/
def defectRecord (event : Byte) (head wedge slot : Nat) (state : Byte) (hits quiet : Nat) : List Byte :=
  [event] ++ be 1 head ++ be 2 wedge ++ be 1 slot ++ [state] ++ be 1 hits ++ be 1 quiet

/-- What the offer of one DEFECT_NOTICE does while a frame is being sent (R138, R139): the budget is tested and spent; a
notice it refuses is counted (17); one it passes is admitted, or dropped by a full queue, counted (15) and raised (5). -/
structure Noticed (stamp : BitVec 16) (record : List Byte) (s t : State) : Prop where
  budget : t.out.budget = match s.out.budget with
    | .unlimited => .unlimited
    | .left n => .left (n - 1)
  refused : s.out.budget = .left 0 → t.out.report = s.out.report ∧ readCounter t 17 = saturated (readCounter s 17) 1
  passed : s.out.budget ≠ .left 0 → readCounter t 17 = readCounter s 17
  admitted : s.out.budget ≠ .left 0 → s.out.report.length < 32 →
    t.out.report = s.out.report ++ [reportBytes 3 stamp record]
  dropped : s.out.budget ≠ .left 0 → 32 ≤ s.out.report.length →
    t.out.report = s.out.report ∧ t.alerts.flags.getLsbD 5 = true ∧ readCounter t 15 = saturated (readCounter s 15) 1
  noOverflow : s.out.budget = .left 0 ∨ s.out.report.length < 32 →
    t.alerts.flags.getLsbD 5 = s.alerts.flags.getLsbD 5 ∧ readCounter t 15 = readCounter s 15

/-- No notice was offered. -/
structure NotNoticed (s t : State) : Prop where
  out : t.out.budget = s.out.budget ∧ t.out.report = s.out.report
  alerts : t.alerts.flags.getLsbD 5 = s.alerts.flags.getLsbD 5 ∧ readCounter t 15 = readCounter s 15 ∧
    readCounter t 17 = readCounter s 17

/-! ### Requests that are refused -/

/-- Cells that cannot be written (R145, R147). -/
def unwritable : Obj → Nat → Prop
  | .setting, k => 14 ≤ k
  | .headrec, k => 11 ≤ k % 16
  | .planstep, k => 10 ≤ k % 16
  | .alert, k => k = 0
  | .defect, _ => True
  | .state, _ => True
  | .lintab, _ => False
  | .runout, _ => False
  | .counter, _ => False

/-- Cells held by running work (R77, R132, R147, R148). -/
def heldByWork (s : State) : Obj → Nat → Prop
  | .setting, k => k ≤ 1 ∧ (s.plan.state = .running ∨ s.engine.binding ≠ none)
  | .headrec, k => s.plan.state = .running ∧ ∃ n, s.plan.current = some n ∧ (planStep s n).head = k / 16
  | .lintab, k => s.plan.state = .running ∧ ∃ n, s.plan.current = some n ∧ (planStep s n).head = k / 9
  | .runout, k => ∃ b, s.engine.binding = some b ∧ b.head = k / 512
  | .planstep, _ => s.plan.state = .running
  | .defect, _ => False
  | .state, _ => False
  | .counter, _ => False
  | .alert, _ => False

/-- The numbers of an object's cells (R145). -/
def cellCount : Obj → Nat
  | .setting => 32
  | .headrec => 384
  | .lintab => 216
  | .runout => 12288
  | .defect => 1024
  | .planstep => 512
  | .state => 16
  | .counter => 24
  | .alert => 2

/-- Value `k` of a request, signed (R20). -/
def valueOf (q : Request) (k : Nat) : Int := (q.values.getD k 0).toInt

/-- `Refused object q s code status`: a request of this code is refused with this status. Codes: 1 GET, 2 SET, 3 PLAN_START,
5 DEFECT_ADD, 6 DEFECT_REMOVE, 7 DEFECT_FLUSH, 8 ALERT_CLEAR, 9 RUNOUT_ZERO; statuses: 2 BUSY, 3 INUSE, 4 RANGE, 5 FULL,
6 READONLY, 7 UNKNOWN (R144). -/
inductive Refused (object : Byte) (q : Request) (s : State) : Nat → Nat → Prop
  /-- An unknown code (R144). -/
  | unknownCode (code : Nat) : code = 0 ∨ 10 < code → Refused object q s code 7
  /-- GET and SET of an unknown object (R145). -/
  | unknownObject (code : Nat) : code = 1 ∨ code = 2 → objOf object.toNat = none → Refused object q s code 7
  /-- GET past the object's end (R146). -/
  | getRange (o : Obj) : objOf object.toNat = some o → cellCount o < q.index.toNat + max 1 (min q.count.toNat 8) →
      Refused object q s 1 4
  /-- SET of no cell, or past the object's end (R147; before it, UNKNOWN: log 20). -/
  | setRange (o : Obj) : objOf object.toNat = some o →
      q.count = 0 ∨ cellCount o < q.index.toNat + q.count.toNat → Refused object q s 2 4
  /-- SET of a range with a cell that cannot be written (R147). -/
  | setReadonly (o : Obj) (i : Nat) : objOf object.toNat = some o → q.index.toNat + q.count.toNat ≤ cellCount o →
      i < q.count.toNat → unwritable o (q.index.toNat + i) → Refused object q s 2 6
  /-- SET of a range with a cell held by running work, and none that cannot be written (R147). -/
  | setInuse (o : Obj) (i : Nat) : objOf object.toNat = some o → q.index.toNat + q.count.toNat ≤ cellCount o →
      (∀ j < q.count.toNat, ¬unwritable o (q.index.toNat + j)) →
      i < q.count.toNat → heldByWork s o (q.index.toNat + i) → Refused object q s 2 3
  /-- PLAN_START while a plan is RUNNING (R119). -/
  | planStartBusy : s.plan.state = .running → Refused object q s 3 2
  /-- DEFECT_ADD and DEFECT_REMOVE without a head and a wedge of the table (R102, R103). -/
  | defectRange (code : Nat) : code = 5 ∨ code = 6 →
      ¬(q.count = 2 ∧ 0 ≤ valueOf q 0 ∧ valueOf q 0 ≤ 23 ∧ 0 ≤ valueOf q 1 ∧ valueOf q 1 ≤ 511) →
      Refused object q s code 4
  /-- DEFECT_ADD of a pair without an entry to a full table without a SUSPECT entry (R102). -/
  | defectFull (h w : Nat) : q.count = 2 → valueOf q 0 = h → h ≤ 23 → valueOf q 1 = w → w ≤ 511 →
      Unlisted s.defects h w → Full s.defects → (∀ c ∈ s.defects, c.2.state ≠ .suspect) → Refused object q s 5 5
  /-- DEFECT_FLUSH without a scope and a head (R104). -/
  | flushRange : ¬(q.count = 2 ∧ 1 ≤ valueOf q 0 ∧ valueOf q 0 ≤ 3 ∧ -1 ≤ valueOf q 1 ∧ valueOf q 1 ≤ 23) →
      Refused object q s 7 4
  /-- ALERT_CLEAR without a value (R144). -/
  | alertClearRange : q.count = 0 → Refused object q s 8 4
  /-- RUNOUT_ZERO without a head of the table (R77, R150). -/
  | runoutZeroRange : q.count = 0 ∨ valueOf q 0 < 0 ∨ 23 < valueOf q 0 → Refused object q s 9 4
  /-- RUNOUT_ZERO of the bound head (R77). -/
  | runoutZeroInuse (b : Binding) : q.count ≠ 0 → s.engine.binding = some b → valueOf q 0 = b.head → b.head ≤ 23 →
      Refused object q s 9 3

/-! ### Invariants -/

/-- Every setting lies in its range (R148). -/
structure SettingsHeld (t : Settings) : Prop where
  headCount : 1 ≤ t.headCount ∧ t.headCount ≤ 24
  wedges : 64 ≤ t.wedges ∧ t.wedges ≤ 512
  windowCode : t.windowCode ≤ 3
  lossLimit : 1 ≤ t.lossLimit ∧ t.lossLimit ≤ 15
  idleTime : 1 ≤ t.idleTime ∧ t.idleTime ≤ 255
  switchSettle : t.switchSettle ≤ 15
  learnWindow : 1 ≤ t.learnWindow ∧ t.learnWindow ≤ 8191
  threshold : 1 ≤ t.threshold ∧ t.threshold ≤ 8191
  tripCount : 1 ≤ t.tripCount ∧ t.tripCount ≤ 16
  releaseCount : 1 ≤ t.releaseCount ∧ t.releaseCount ≤ 16
  triggerMode : t.triggerMode ≤ 3
  confirmThreshold : 1 ≤ t.confirmThreshold ∧ t.confirmThreshold ≤ 15
  ageLimit : t.ageLimit ≤ 255
  reportLimit : t.reportLimit ≤ 32

/-- Every field of a plan step record lies in its range (R117). -/
structure StepHeld (p : PlanStep) : Prop where
  head : p.head ≤ 23
  m : p.m ≤ 6
  passes : 1 ≤ p.passes ∧ p.passes ≤ 16
  gain : 1 ≤ p.gain ∧ p.gain ≤ 16
  limitA : p.limitA ≤ 8191
  limitB : p.limitB ≤ 8191
  timeout : p.timeout ≤ 65535

/-- The numbers of a head record lie in their ranges (R40). -/
structure HeadRecHeld (r : HeadRec) : Prop where
  burstFloor : r.burstFloor ≤ 8190
  ownOffset : -8192 ≤ r.ownOffset ∧ r.ownOffset ≤ 8191
  refHead : r.refHead ≤ 23
  offsetDiff : -8192 ≤ r.offsetDiff ∧ r.offsetDiff ≤ 8191

/-- What the bench software loads stays in range, each table in its canonical form: settings, plan steps, linearization
points (R44, R117, R148). -/
structure ConfigurationHeld (s : State) : Prop where
  settings : SettingsHeld s.settings
  stepsForm : Table.canonical {} 32 s.steps = true
  steps : ∀ c ∈ s.steps, StepHeld c.2
  linForm : Table.canonical 0 216 s.linTab = true
  lin : ∀ c ∈ s.linTab, -128 ≤ c.2 ∧ c.2 ≤ 127

/-- The fields of a head context lie in their ranges, and the run count means what the monitor state says (R48, R109). -/
structure ContextHeld (c : HeadContext) : Prop where
  targetTrack : c.targetTrack < 2 ^ 20
  targetOffset : -512 ≤ c.targetOffset ∧ c.targetOffset ≤ 511
  settle : c.settle ≤ 15
  held : -32768 ≤ c.held ∧ c.held ≤ 32767
  lastTrack : c.lastTrack < 2 ^ 20
  run : c.run ≤ 15
  clearRun : c.monitor = .clear → c.run = 0
  pendingRun : c.monitor = .pending → 1 ≤ c.run

/-- The head contexts are 24, each in range, with the settings that bound them (R48, R109, R148). -/
structure ContextsHeld (s : State) : Prop where
  settings : SettingsHeld s.settings
  form : Table.canonical {} 24 s.contexts = true
  contexts : ∀ c ∈ s.contexts, ContextHeld c.2
  active : ∀ h, s.activeHead = some h → h ≤ 23

/-- The parameters of a pass (R79). -/
structure ParamsHeld (p : PassParams) : Prop where
  revolutions : 1 ≤ p.revolutions ∧ p.revolutions ≤ 64
  passes : 1 ≤ p.passes ∧ p.passes ≤ 16
  gain : 1 ≤ p.gain ∧ p.gain ≤ 16
  limit : p.limit ≤ 2047

/-- A pending solve for W wedges (R87, R88, R93). -/
structure SolveHeld (wedges : Nat) (v : PendingSolve) : Prop where
  length : v.entries.length = wedges
  entries : ∀ x ∈ v.entries, -2048 ≤ x ∧ x ≤ 2047
  counted : v.updated + v.thin = wedges
  saturated : v.saturated ≤ wedges
  fold : -8191 ≤ v.meanFold ∧ v.meanFold ≤ 8191
  largest : v.largest ≤ 16382

/-- The learning state: binding, pass and parameters stand and fall together; a pending solve exists in SOLVE alone; no cell
holds more samples than the pass has revolutions, nor a sum past what those samples can give (R78, R79, R82, R83). -/
structure EngineHeld (wedges : Nat) (e : Engine) : Prop where
  unbound : e.pass = .unbound ↔ e.binding = none
  params : e.params.isSome = e.binding.isSome
  binding : ∀ b, e.binding = some b → b.head ≤ 23 ∧ b.step ≤ 31
  inRange : ∀ p, e.params = some p → ParamsHeld p
  number : ∀ p, e.params = some p → 1 ≤ e.passNumber ∧ e.passNumber ≤ p.passes
  noNumber : e.binding = none → e.passNumber = 0
  solve : e.pass = .solve ↔ e.pendingSolve.isSome = true
  pending : ∀ v, e.pendingSolve = some v → SolveHeld wedges v
  counting : e.pass = .accumulate → ∀ p, e.params = some p → e.revs < p.revolutions
  revs : e.revs ≤ 64
  cellsForm : Table.canonical {} 512 e.cells = true
  cells : ∀ c ∈ e.cells, ∃ p, e.params = some p ∧ c.2.count ≤ p.revolutions ∧ c.2.sum.natAbs ≤ 8191 * c.2.count

/-- What learning writes stays in range: the learning state, the compensation table, the head records, with the
configuration they are computed from (R40, R75, R78, R83). -/
structure LearningHeld (s : State) : Prop where
  configuration : ConfigurationHeld s
  plan : ∀ n, s.plan.current = some n → n ≤ 31
  engine : EngineHeld s.settings.wedges s.engine
  runoutForm : Table.canonical 0 12288 s.runout = true
  runout : ∀ c ∈ s.runout, -2048 ≤ c.2 ∧ c.2 ≤ 2047
  headRecsForm : Table.canonical {} 24 s.headRecs = true
  headRecs : ∀ c ∈ s.headRecs, HeadRecHeld c.2

/-- A defect entry's fields lie in their ranges (R94). -/
structure EntryHeld (e : DefectEntry) : Prop where
  head : e.head ≤ 23
  wedge : e.wedge ≤ 511
  hits : e.hits ≤ 15
  quiet : e.quiet ≤ 255

/-- At most 256 entries, one to a slot, and no two for the same head and wedge (R94). -/
structure DefectsHeld (s : State) : Prop where
  settings : SettingsHeld s.settings
  form : Table.wf 256 s.defects = true
  entries : ∀ c ∈ s.defects, EntryHeld c.2
  unique : s.defects.Pairwise fun c d => ¬(c.2.head = d.2.head ∧ c.2.wedge = d.2.wedge)

/-- LOCKED and COASTING: P in range and the law P × W + r = L, an expected wedge below W whose half-width is at most a
quarter of P, the missed list as long as the miss count, at most 14 (R63, R64, R66). -/
structure RunningClock (wedges : Nat) (c : Clock) : Prop where
  period : 200 ≤ c.period ∧ c.period ≤ 65535
  law : c.period * wedges + c.remainder = c.revLength
  remainder : c.remainder < wedges
  expected : ∃ e, c.expected = some e ∧ e.wedge < wedges ∧ 4 * e.halfWidth ≤ c.period
  lastIndex : c.lastIndex.isSome = true
  misses : c.missed.length = c.missCount
  missCount : c.missCount ≤ 14
  acquisition : c.acquisition = none

/-- The Wedge Clock and the timers that follow its state: what each clock state holds and lacks; the idle timer runs in
ACQUIRING, LOCKED and COASTING alone; the budget refresh timer is stopped in LOCKED and COASTING alone; the budget is at
most 32 (R59 to R71, R139, R140). -/
structure ClockHeld (s : State) : Prop where
  settings : SettingsHeld s.settings
  running : s.clock.state.running = true → RunningClock s.settings.wedges s.clock
  stopped : s.clock.state.running = false → s.clock.expected = none ∧ s.clock.missed = [] ∧ s.clock.missCount = 0
  acquisition : s.clock.acquisition.isSome = true → s.clock.state = .acquiring
  frames : ∀ a, s.clock.acquisition = some a → 1 ≤ a.frames ∧ a.frames ≤ 513
  idle : s.clock.idleTimer.isSome = true ↔ s.clock.state ≠ .unlocked ∧ s.clock.state ≠ .lost
  refresh : s.out.refreshTimer.isSome = !s.clock.state.running
  budget : ∀ n, s.out.budget = .left n → n ≤ 32

/-- The conditions of R121, and of R57 and R86 (log 23), that stand for as long as a step on head `h` is ACTIVE (R121, R122,
R132). -/
structure Measuring (s : State) (h : Nat) : Prop where
  active : s.activeHead = some h
  clock : s.clock.state.running = true
  target : (headContext s h).targetValid = true
  seeking : (headContext s h).seeking = false
  settle : (headContext s h).settle = 0
  steady : (headContext s h).retargeted = false
  headCount : h < s.settings.headCount
  enabled : (headRec s h).enabled = true

/-- The Plan Controller and the engine together: RUNNING has a current step in one sub-state; the wait timer runs in WAITING
alone and as the step's record says, and in WAITING the registers are cleared; every step before the current one has ended;
an ACTIVE step's conditions stand; the engine is bound to the current LEARN step or not at all, and accumulates only while
that step is ACTIVE (R79, R81, R85, R118 to R123, R132). -/
structure PlanHeld (s : State) : Prop where
  running : s.plan.state = .running ↔ s.plan.current.isSome = true
  sub : s.plan.sub.isSome = s.plan.current.isSome
  current : ∀ n, s.plan.current = some n → n ≤ 31 ∧ (planStep s n).phase ≠ .none ∧ s.plan.ended = n
  tallies : s.plan.failed ≤ s.plan.ended ∧ s.plan.ended ≤ 32
  waiting : ∀ n, s.plan.current = some n → s.plan.sub = some .waiting →
    s.plan.waitTimer = if (planStep s n).timeout = 0 then none else some (planStep s n).timeout
  cleared : s.plan.sub = some .waiting → s.plan.regs = {}
  noTimer : s.plan.sub ≠ some .waiting → s.plan.waitTimer = none
  measuring : ∀ n, s.plan.current = some n → s.plan.sub = some .active → Measuring s (planStep s n).head
  unbound : s.engine.pass = .unbound ↔ s.engine.binding = none
  bound : ∀ b, s.engine.binding = some b →
    s.plan.current = some b.step ∧ (planStep s b.step).phase = .learn ∧ (planStep s b.step).head = b.head
  accumulating : s.engine.pass = .accumulate → s.plan.sub = some .active

/-- No queue holds more than its capacity, and the round position is one of seven (R12, R134). -/
structure CapacitiesHeld (s : State) : Prop where
  loop : s.out.loop.length ≤ 8
  answer : s.out.answer.length ≤ 4
  report : s.out.report.length ≤ 32
  status : s.out.status.length ≤ 16
  fifo : s.link.fifo.length ≤ 16
  round : s.out.round ≤ 6

/-- No transmitter idles while a frame waits for it, and the front transmitter sends only what the FIFO holds (R14, R141). -/
structure TransmittersHeld (s : State) : Prop where
  bench : s.out.sending = none → s.out.loop = [] ∧ s.out.answer = [] ∧ s.out.report = [] ∧ s.out.status = []
  front : s.link.frontSending = true ↔ s.link.fifo ≠ []

/-- The counters are 24, each at most 65535 (R156). -/
structure CountersHeld (s : State) : Prop where
  form : Table.canonical 0 24 s.alerts.counters = true
  counters : ∀ c ∈ s.alerts.counters, c.2 ≤ 65535

end Sys2Proof.Safety
end

