-- ==== Sys2Proof/WellFormed.lean ====
section
/-! DEFINITION. Which commands are well formed: a frame is written down by exactly one row. An ill-formed command is another
row's frame under this row's name; `exec` runs it all the same, by what the frame holds (log 9). -/

namespace Sys2Proof

/-- The range of cells a request names covers the cell `k` (R145). -/
def Request.covers (r : Request) (k : Nat) : Bool :=
  decide (r.index.toNat ≤ k) && decide (k < r.index.toNat + r.count.toNat)

/-- A delimited sequence at the front port that no typed row of that port writes down: not a WEDGE of 19 bytes, not a
FESTAT of 4 or more. -/
def rawUpstream (bytes : Frame) : Bool :=
  !((bytes.head? == some Config.kindWedge && bytes.length == 19) ||
    (bytes.head? == some Config.kindFestat && decide (4 ≤ bytes.length)))

/-- A delimited sequence at the bench port that no typed row of that port writes down: not a FECMD of 4 bytes or more, not a
HOLD of 11, not a MGMT of 10 and a multiple of 4 more. -/
def rawDownstream (bytes : Frame) : Bool :=
  !((bytes.head? == some Config.kindFecmd && decide (4 ≤ bytes.length)) ||
    (bytes.head? == some Config.kindHold && bytes.length == 11) ||
    (bytes.head? == some Config.kindMgmt && decide (10 ≤ bytes.length) && (bytes.length - 10) % 4 == 0))

/-- A SET that has a row of its own: HEADREC (object 2), COUNTER (8), SETTING (1) with the cell of W, ALERT (9) index 1. -/
def setHasOwnRow (object : Byte) (r : Request) : Bool :=
  object == 2 || object == 8 || (object == 1 && r.covers 1) || (object == 9 && r.index == 1)

/-- The command is the one its frame is written down by. -/
def Instr.wellFormed : Instr → Bool
  | .powerOnReset => true
  | .wedge _ _ => true
  | .festat _ => true
  | .unknownKindUpstream _ bytes => rawUpstream bytes
  | .fecmd _ => true
  | .hold _ => true
  | .unknownKindDownstream bytes => rawDownstream bytes
  | .get _ _ => true
  | .set object r => !setHasOwnRow object r
  | .setCounter _ => true
  | .setAlertMask r => r.index == 1
  | .setWedgesPerRevolution r => r.covers 1
  | .setHeadrec _ => true
  | .planStart _ _ => true
  | .planStop _ _ => true
  | .defectAdd _ _ => true
  | .defectRemove _ _ => true
  | .defectFlush _ _ => true
  | .alertClear _ _ => true
  | .runoutZero _ _ => true
  | .restart _ _ => true
  | .unknownRequest code _ _ => code == 0 || decide (10 < code.toNat)
  | .wedgeMissed => true
  | .idleTimeout => true
  | .timeoutWait => true
  | .budgetRefreshTimerExpiry => true
  | .frontTransmitEnd => true
  | .benchTransmitEnd => true

end Sys2Proof
end

