-- ==== Sys2Proof/Certificates/Slice0/Obligations.lean ====
section
/-! DEFINITION. The statements for the provers. A value or an order the manual leaves open and the model fixes is named with its
log entry where a statement rests on it. -/

open Sys2Proof Sys2Proof.Machine Sys2Proof.Safety

/-! ### Steps and frames -/

/-- A step takes the command at the front of the queue and runs it with the queue's rest; on an empty queue the part idles
(the model's choices: logs 3 and 16). -/
def Obligations.StepRunsTheFrontCommand : Prop :=
  ∀ s : State,
    (∀ c rest, s.pending = c :: rest → step s = exec c { s with pending := rest }) ∧
    (s.pending = [] → step s = .next s)

/-- Every command has a next state, and none touches the queue of those that wait: the model's choices, since the manual
describes no state in which the part stops (log 17), and the queue is the model's own, which power-on reset leaves too
(log 19). What each command's next state holds, the statements on the commands say. -/
def Obligations.EveryCommandCompletes : Prop :=
  ∀ (c : Instr) (s : State), ∃ t, exec c s = .next t ∧ t.pending = s.pending

/-- The CRC of the nine check bytes is 0x29B1, and a byte sequence followed by two bytes has CRC 0 exactly when the two are
its own CRC, most significant first (R3; the second clause is inferred from the generator). -/
def Obligations.CrcCheckValueAndResidue : Prop :=
  crc16 [0x31, 0x32, 0x33, 0x34, 0x35, 0x36, 0x37, 0x38, 0x39] = 0x29B1 ∧
  ∀ (bytes : List Byte) (v : BitVec 16), crc16 (bytes ++ be 2 v.toNat) = 0 ↔ v = crc16 bytes

/-- Which frames of the typed rows pass the checks on arrival: a length byte that counts the body, a body size that the kind
allows, and the CRC of all that precedes it (R4, R5, R6). -/
def Obligations.TypedFramesAreTakenByLengthAndCrc : Prop :=
  (∀ f : WedgeFrame, linkCheck .front f.bytes = none ↔ f.length = 15 ∧ f.crc = crc16 (f.bytes.take 17)) ∧
  (∀ f : HoldFrame, linkCheck .bench f.bytes = none ↔ f.length = 7 ∧ f.crc = crc16 (f.bytes.take 9)) ∧
  (∀ (port : Port) (kind : Byte) (f : OpaqueFrame), (port = .front ∧ kind = 0x22) ∨ (port = .bench ∧ kind = 0x31) →
    (linkCheck port (f.bytes kind) = none ↔
      1 ≤ f.body.length ∧ f.body.length ≤ 64 ∧ f.length.toNat = f.body.length ∧
        f.crc = crc16 ((f.bytes kind).take (2 + f.body.length)))) ∧
  (∀ (code object : Byte) (r : Request), linkCheck .bench (r.bytes code object) = none ↔
    r.values.length ≤ 14 ∧ r.count.toNat = r.values.length ∧ r.length.toNat = 6 + 4 * r.values.length ∧
      r.crc = crc16 ((r.bytes code object).take (8 + 4 * r.values.length)))

/-- A frame the part builds passes every check but the last at either port: its length, its size and its CRC are right, and
it may arrive nowhere (R3, R5, R6, R18, R19). -/
def Obligations.FramesThePartBuildsAreMisdirected : Prop :=
  ∀ port : Port,
    (∀ p : Position, linkCheck port (positionFrame p) = some .misdirected) ∧
    (∀ (kind : Nat) (stamp : BitVec 16) (record : List Byte), record.length ≤ 20 →
      linkCheck port (reportFrame kind stamp record) = some .misdirected) ∧
    (∀ (m : Mgmt) (r : Reply) (s : State), r.values.length ≤ 13 →
      linkCheck port (answerFrame m r s) = some .misdirected)

/-- The rows and the bytes agree: a typed row's frame read back from its bytes is that row's frame, field by field, and the
same bytes have the same effect whichever row brings them (the layouts of R20; that the frame's content decides is the
model's choice, log 9). -/
def Obligations.TheFrameDecidesTheCommand : Prop :=
  (∀ f : WedgeFrame, wedgeFromBytes f.bytes = f) ∧
  (∀ f : HoldFrame, holdFromBytes f.bytes = f) ∧
  (∀ (code object : Byte) (r : Request), requestCode (r.bytes code object) = code ∧
    requestObject (r.bytes code object) = object ∧ requestFromBytes (r.bytes code object) = r) ∧
  (∀ (arrival : Nat) (f : WedgeFrame) (s : State),
    exec (.unknownKindUpstream arrival f.bytes) s = exec (.wedge arrival f) s) ∧
  (∀ (arrival : Nat) (f : OpaqueFrame) (s : State),
    exec (.unknownKindUpstream arrival (f.bytes 0x22)) s = exec (.festat f) s) ∧
  (∀ (f : OpaqueFrame) (s : State), exec (.unknownKindDownstream (f.bytes 0x31)) s = exec (.fecmd f) s) ∧
  (∀ (f : HoldFrame) (s : State), exec (.unknownKindDownstream f.bytes) s = exec (.hold f) s) ∧
  (∀ (c : Instr) (code object : Byte) (r : Request) (s : State), requestOf c = some (code, object, r) →
    exec (.unknownKindDownstream (r.bytes code object)) s = exec c s)

/-- Every byte sequence the line can deliver is a command: at the front port some well-formed command brings it, at the
bench port exactly one does. That the rows of the unknown kinds take every sequence no other row can have is the model's
choice (log 9). -/
def Obligations.EveryDelimitedSequenceIsACommand : Prop :=
  ∀ bytes : Frame,
    (∃ c : Instr, c.wellFormed = true ∧ frontFrame c = some bytes) ∧
    (∃! c : Instr, c.wellFormed = true ∧ benchFrame c = some bytes)

/-- A frame that fails a check at the front port is counted by its cause (counters 0, 1, 2), raises FRONT_LINK_ERROR
whatever the mask holds, and does nothing else: the latch is as it was. Unmasked, the alert shows in the attention flag. -/
def Obligations.FailedFrontFramesAreOnlyCounted : Prop :=
  ∀ (c : Instr) (s : State) (bytes : Frame) (cause : LinkCause),
    frontFrame c = some bytes → linkCheck .front bytes = some cause →
    let k := match cause with | .crc => 0 | .length => 1 | .misdirected => 2
    ∃ t, exec c s = .next t ∧
      t = { s with alerts := { s.alerts with flags := raised s.alerts.flags [7], counters := counted s k 1 } } ∧
      t.link.latch = s.link.latch ∧ (s.alerts.mask.getLsbD 7 = false → attention t = true)

/-- A frame that fails a check at the bench port is counted by its cause (counters 3, 4, 5), raises BENCH_LINK_ERROR, sets
its cause in the latch, and does nothing else: no request among them is executed or answered. -/
def Obligations.FailedBenchFramesAreCountedAndLatched : Prop :=
  ∀ (c : Instr) (s : State) (bytes : Frame) (cause : LinkCause),
    benchFrame c = some bytes → linkCheck .bench bytes = some cause →
    let k := match cause with | .crc => 3 | .length => 4 | .misdirected => 5
    ∃ t, exec c s = .next t ∧
      t = { s with
        alerts := { s.alerts with flags := raised s.alerts.flags [8], counters := counted s k 1 }
        link := { s.link with latch :=
          { crc := s.link.latch.crc || cause == .crc
            length := s.link.latch.length || cause == .length
            misdirected := s.link.latch.misdirected || cause == .misdirected
            fifoDrop := s.link.latch.fifoDrop } } }

/-! ### Passenger frames and the transmitters -/

/-- FESTAT and upstream frames of unknown kinds enter the STATUS class unchanged: behind the newest, or straight to the
transmitter when it is free and nothing waits; a full queue drops and counts them. -/
def Obligations.StatusTrafficIsPassedThrough : Prop :=
  ∀ (c : Instr) (bytes : Frame) (s : State),
    (∃ f : OpaqueFrame, c = .festat f ∧ bytes = f.bytes 0x22) ∨
      (∃ arrival : Nat, c = .unknownKindUpstream arrival bytes ∧ unknownKind (frameKind bytes) = true) →
    linkCheck .front bytes = none →
    (s.out.status.length < 16 → s.out.sending.isSome = true →
      exec c s = .next { s with out := { s.out with status := s.out.status ++ [bytes] } }) ∧
    (16 ≤ s.out.status.length → exec c s = .next { s with alerts := { s.alerts with counters := counted s 16 1 } }) ∧
    (s.out.sending = none → s.out.loop = [] → s.out.answer = [] → s.out.report = [] → s.out.status = [] →
      s.out.round ≤ 6 →
      exec c s = .next { s with out := { s.out with sending := some bytes, round := (s.out.round + 1) % 7 } })

/-- FECMD and downstream frames of unknown kinds enter the front-port transmit FIFO unchanged, and the transmitter sends the
oldest frame there; a full FIFO drops the newcomer, counted, latched as FIFO_DROP and raised as BENCH_LINK_ERROR. At the end
of a transmission the frame leaves, and the next is begun if there is one. The model's choices: a frame admitted to an empty
FIFO is begun at once (log 21), and an end with nothing being sent has no effect (log 4). -/
def Obligations.DownstreamTrafficPassesTheFifo : Prop :=
  (∀ (c : Instr) (bytes : Frame) (s : State),
    (∃ f : OpaqueFrame, c = .fecmd f ∧ bytes = f.bytes 0x31) ∨
      (c = .unknownKindDownstream bytes ∧ unknownKind (frameKind bytes) = true) →
    linkCheck .bench bytes = none →
    (s.link.fifo.length < 16 →
      exec c s = .next { s with link := { s.link with fifo := s.link.fifo ++ [bytes], frontSending := true } }) ∧
    (16 ≤ s.link.fifo.length →
      exec c s = .next { s with
        link := { s.link with latch := { s.link.latch with fifoDrop := true } }
        alerts := { s.alerts with flags := raised s.alerts.flags [8], counters := counted s 6 1 } })) ∧
  (∀ s : State,
    (s.link.frontSending = true → exec .frontTransmitEnd s = .next { s with link :=
      { s.link with fifo := s.link.fifo.drop 1, frontSending := decide (1 < s.link.fifo.length) } }) ∧
    (s.link.frontSending = false → exec .frontTransmitEnd s = .next s))

/-- The grant at the end of a bench-port transmission. A LOOP frame goes first and leaves the round position. Else the class
at the position is served, or the first non-empty of ANSWER, REPORT, STATUS, and the position advances. With nothing
waiting there is no grant and the position stays. From any position, while all three classes have frames waiting and LOOP
is empty, seven grants give four to ANSWER, two to REPORT, one to STATUS. An end with nothing being sent has no effect (the
model's choice: log 4). -/
def Obligations.TheRoundGrantsByItsPositions : Prop :=
  (∀ s : State, s.out.round ≤ 6 →
    (∀ g rest, s.out.loop = g :: rest → s.out.sending.isSome = true →
      exec .benchTransmitEnd s = .next { s with out := { s.out with loop := rest, sending := some g } }) ∧
    (∀ c, s.out.loop = [] → s.out.sending.isSome = true →
      ([classAt s.out.round, .answer, .report, .status].find? fun c => decide (waiting s.out c ≠ [])) = some c →
      exec .benchTransmitEnd s = .next { s with out := served s.out c }) ∧
    (s.out.loop = [] → s.out.sending.isSome = true → (∀ c, waiting s.out c = []) →
      exec .benchTransmitEnd s = .next { s with out := { s.out with sending := none } }) ∧
    (s.out.sending = none → exec .benchTransmitEnd s = .next s)) ∧
  (∀ s : State, s.out.round ≤ 6 → s.out.loop = [] → s.out.sending.isSome = true →
    4 ≤ s.out.answer.length → 2 ≤ s.out.report.length → 1 ≤ s.out.status.length →
    ∃ t, runs (List.replicate 7 .benchTransmitEnd) s = some t ∧ t.out.answer = s.out.answer.drop 4 ∧
      t.out.report = s.out.report.drop 2 ∧ t.out.status = s.out.status.drop 1 ∧ t.out.round = s.out.round)

/-- The expiry of the budget refresh timer sets the budget from the report limit and starts the timer again with 10 ms; while
the timer is stopped the command has no effect (the model's choice: log 4). -/
def Obligations.RefreshTimerExpirySetsTheBudget : Prop :=
  ∀ s : State,
    (s.out.refreshTimer.isSome = true → exec .budgetRefreshTimerExpiry s = .next { s with out := { s.out with
      budget := if s.settings.reportLimit = 0 then .unlimited else .left s.settings.reportLimit
      refreshTimer := some 10 } }) ∧
    (s.out.refreshTimer = none → exec .budgetRefreshTimerExpiry s = .next s)

/-! ### Demodulation -/

/-- The two ratios of a frame that is to be demodulated: n is (A - B) × 512 / (A + B) and q is (C - D) × 512 / (C + D), each
rounded half away from zero, in -512..+512, and ±512 where one burst of the pair is 0. -/
def Obligations.RatiosAreRounded : Prop :=
  ∀ (floor : Nat) (f : WedgeFrame),
    let r := readWedge f
    let n := ratio r.a r.b
    let q := ratio r.c r.d
    faulty floor r = false →
    (Rounded n (((r.a : Int) - r.b) * 512) (r.a + r.b) ∧ -512 ≤ n ∧ n ≤ 512 ∧ (r.a = 0 → n = -512) ∧ (r.b = 0 → n = 512)) ∧
    (Rounded q (((r.c : Int) - r.d) * 512) (r.c + r.d) ∧ -512 ≤ q ∧ q ≤ 512 ∧ (r.c = 0 → q = -512) ∧ (r.d = 0 → q = 512))

/-- The fraction comes from the ratio of smaller magnitude, the normal one when they are equal, clamped at +511; the
correction is interpolated between the two points of the fraction's segment by a floor division, and the sum is clamped. -/
def Obligations.FractionAndLinearization : Prop :=
  (∀ n q : Int, -512 ≤ n → n ≤ 512 → -512 ≤ q → q ≤ 512 →
    (|n| ≤ |q| → Rounded (fraction n q) n 2) ∧
    (|q| < |n| → ∃ r, Rounded r q 2 ∧ (0 < n → fraction n q = min 511 (256 + r)) ∧ (n < 0 → fraction n q = -(256 + r))) ∧
    -512 ≤ fraction n q ∧ fraction n q ≤ 511) ∧
  (∀ (c : Nat → Int) (p : Int), (∀ k ≤ 8, -128 ≤ c k ∧ c k ≤ 127) → -512 ≤ p → p ≤ 511 →
    ∃ (k : Nat) (i : Int), k ≤ 7 ∧ -512 + 128 * (k : Int) ≤ p ∧ p ≤ -512 + 128 * (k : Int) + 127 ∧
      128 * i ≤ (c (k + 1) - c k) * (p - (-512 + 128 * (k : Int))) ∧
      (c (k + 1) - c k) * (p - (-512 + 128 * (k : Int))) < 128 * (i + 1) ∧
      -128 ≤ c k + i ∧ c k + i ≤ 127 ∧ linearize c p = max (-512) (min 511 (p + (c k + i))))

/-- A WEDGE frame that is demodulated (eligible, not FAULT, no STATIC or CONFIRMED entry): its head becomes active, its
context takes the clamped error as held value and the frame's track, works off one settle frame, and its monitor counts the frame
unless SEEKING. An INDEX frame is computed against the entries and the offset that its apply leaves. The saturated frames
counter moves only when the clamp acted. Other contexts, the settings, the linearization, the link and other heads' records
are as they were; without INDEX so are the tables. Without INDEX, learning takes the error E_c into the wedge's cell if the
pass accumulates on this head, the frame is locked on time and quiet, learn enable is set, the head is not TRIPPED after
it, |E_c| is within the learn window and the cell below M; an ACTIVE step on the head takes what its phase measures; and a
slip or a switch away has first ended the accumulation and the measurement it ends. (`retargeted` is the model's own field:
log 23.) -/
def Obligations.DemodulatedWedgeUpdatesItsHead : Prop :=
  ∀ (s : State) (arrival : Nat) (f : WedgeFrame),
    let r := readWedge f
    let c := headContext s r.head
    let ec := unclampedError (computedAgainst s r) r
    let eOut := max (-32768) (min 32767 ec)
    let m := monitorStep s.settings (decide (s.settings.threshold < eOut.natAbs)) c
    let e := engineFound arrival r s
    Arrives arrival f s → eligible s r.head r.wedge = true → (r.index = true → DefectsHeld s) →
    knownDefect s r.head r.wedge = false → faulty (headRec s r.head).burstFloor r = false →
    ∃ t, exec (.wedge arrival f) s = .next t ∧
      headContext t r.head = { c with
        settle := settleFound s r.head - 1
        held := eOut
        lastTrack := r.track
        monitor := if c.seeking then c.monitor else m.state
        run := if c.seeking then c.run else m.run
        retargeted := false } ∧
      (∀ k, k ≠ r.head → headContext t k = headContext s k) ∧ t.activeHead = some r.head ∧
      readCounter t 21 = (if eOut = ec then readCounter s 21 else saturated (readCounter s 21) 1) ∧
      t.pending = s.pending ∧ t.link = s.link ∧ t.settings = s.settings ∧ t.linTab = s.linTab ∧ t.steps = s.steps ∧
      t.alerts.mask = s.alerts.mask ∧ (∀ k, k ≠ r.head → headRec t k = headRec s k) ∧
      (r.index = false →
        t.headRecs = s.headRecs ∧ t.runout = s.runout ∧ t.defects = s.defects ∧
        t.engine = { e with cells := t.engine.cells } ∧
        (∀ k, engineCell t k =
          let cell := Table.get {} e.cells k
          if k = r.wedge ∧ e.pass = .accumulate ∧ boundTo s r.head = true ∧ sampleable arrival r s t = true ∧
              cell.count < cellLimit s
          then { sum := cell.sum + ec, count := cell.count + 1 } else cell) ∧
        t.plan = fedPlan arrival r s t (planFound arrival r s))

/-- A WEDGE frame that is held (eligible, FAULT or at a STATIC or CONFIRMED entry) leaves held value, last good track and
monitor of its head; it counts for the settle count and in the held frames counter, once. Without INDEX it leaves the tables,
gives learning no sample, and an ACTIVE step on its head only SETTLE's mark of a head that stands TRIPPED. (`retargeted` is the
model's own field: log 23.) -/
def Obligations.HeldWedgeKeepsTheHeldValue : Prop :=
  ∀ (s : State) (arrival : Nat) (f : WedgeFrame),
    let r := readWedge f
    let fault := faulty (headRec s r.head).burstFloor r
    Arrives arrival f s → eligible s r.head r.wedge = true → (r.index = true → DefectsHeld s) →
    (knownDefect s r.head r.wedge = true ∨ fault = true) →
    ∃ t, exec (.wedge arrival f) s = .next t ∧
      headContext t r.head = { headContext s r.head with settle := settleFound s r.head - 1, retargeted := false } ∧
      (∀ k, k ≠ r.head → headContext t k = headContext s k) ∧ t.activeHead = some r.head ∧
      readCounter t 20 = saturated (readCounter s 20) 1 ∧ readCounter t 21 = readCounter s 21 ∧
      t.pending = s.pending ∧ t.link = s.link ∧ t.settings = s.settings ∧ t.linTab = s.linTab ∧ t.steps = s.steps ∧
      t.alerts.mask = s.alerts.mask ∧ (∀ k, k ≠ r.head → headRec t k = headRec s k) ∧
      (r.index = false →
        t.headRecs = s.headRecs ∧ t.runout = s.runout ∧
        (fault = false ∨ (headRec s r.head).defectLearn = false → t.defects = s.defects) ∧
        t.engine = engineFound arrival r s ∧ t.plan = fedPlan arrival r s t (planFound arrival r s))

/-- What an eligible WEDGE frame puts into the LOOP class while the transmitter is busy: by the head's mode the frame's own
bytes, the POSITION, or both in this order. A full queue loses its oldest frame to each newcomer, counted. The POSITION
carries the frame's head, wedge and track, the error (of an INDEX frame, against what its apply leaves) or the held value,
and every flag by its rule, OFFTRACK and ATTENTION as they stand after the frame. -/
def Obligations.EligibleWedgeReachesTheLoopClass : Prop :=
  ∀ (s : State) (arrival : Nat) (f : WedgeFrame),
    let r := readWedge f
    let c := headContext s r.head
    let fault := faulty (headRec s r.head).burstFloor r
    let defect := knownDefect s r.head r.wedge
    let held := fault || defect
    let ec := unclampedError (computedAgainst s r) r
    let eOut := if held then c.held else max (-32768) (min 32767 ec)
    let ruling := rulingOn arrival r s
    Arrives arrival f s → eligible s r.head r.wedge = true → (r.index = true → DefectsHeld s) →
    s.out.sending.isSome = true → s.out.loop.length ≤ 8 →
    ∃ t, exec (.wedge arrival f) s = .next t ∧
      let frames := loopFrames (headRec s r.head).mode f.bytes
        (buildFrame 0x51 (be 1 r.head ++ be 2 r.wedge ++ be 3 r.track ++ beInt 2 eOut ++ be 2 (PositionFlags.word
          { missed := false
            held := held
            defect := defect
            fault := fault
            settling := decide (0 < settleFound s r.head)
            seeking := c.seeking
            noTarget := !c.targetValid
            offtrack := (headContext t r.head).monitor == .tripped
            saturated := !held && decide (eOut ≠ ec)
            early := ruling == .early || ruling == .slip
            late := ruling == .late
            compensated := !held && (headRec s r.head).compEnable
            attention := attention t })))
      let lost := s.out.loop.length + frames.length - 8
      t.out.loop = (s.out.loop ++ frames).drop lost ∧
      readCounter t 13 = if lost = 0 then readCounter s 13 else saturated (readCounter s 13) lost

/-- A WEDGE frame that is not eligible goes into the LOOP class unchanged, counted by cause. Past W it reaches no block at
all. Below W it reaches the clock, but no context and not the active head, no compensation entry and no linearization point,
nor, in a part whose plan and learning stand as PlanHeld says, any head record; the defects only by a completed revolution
event, learning and plan only by the notice of a slip. -/
def Obligations.IneligibleWedgeIsOnlyForwarded : Prop :=
  ∀ (s : State) (arrival : Nat) (f : WedgeFrame),
    let r := readWedge f
    let foreign := if s.settings.headCount ≤ r.head then saturated (readCounter s 7) 1 else readCounter s 7
    Arrives arrival f s → eligible s r.head r.wedge = false →
    ∃ t, exec (.wedge arrival f) s = .next t ∧
      readCounter t 7 = foreign ∧
      (s.out.sending.isSome = true →
        t.out.loop = (if s.out.loop.length < 8 then s.out.loop else s.out.loop.drop 1) ++ [f.bytes] ∧
        readCounter t 13 =
          if s.out.loop.length < 8 then readCounter s 13 else saturated (readCounter s 13) 1) ∧
      t.contexts = s.contexts ∧ t.activeHead = s.activeHead ∧ t.linTab = s.linTab ∧ t.runout = s.runout ∧
      t.settings = s.settings ∧ t.steps = s.steps ∧ t.link = s.link ∧
      (s.settings.wedges ≤ r.wedge →
        readCounter t 8 = saturated (readCounter s 8) 1 ∧
        t = { s with
          out := t.out
          alerts := { s.alerts with counters := t.alerts.counters } }) ∧
      (r.wedge < s.settings.wedges → readCounter t 8 = readCounter s 8) ∧
      (r.index = false ∨ (s.clock.state ≠ .locked ∧ s.clock.state ≠ .coasting) → t.defects = s.defects) ∧
      (PlanHeld s → t.headRecs = s.headRecs ∧
        (rulingOn arrival r s ≠ .slip → t.engine = s.engine ∧ t.plan = s.plan))

/-- An offset result and a mean fold written to a head make its offset valid and leave every other record. A head that does
not track takes the clamped value, or the clamped sum, as its effective offset; a head that tracks keeps its own offset and
moves by its difference from the reference, each sum clamped. -/
def Obligations.OffsetWritesMoveTheEffectiveOffset : Prop :=
  ∀ (s : State) (h : Nat) (v : Int),
    let clip := fun x : Int => max (-8192) (min 8191 x)
    let r := headRec s h
    let o := (headRec s r.refHead).ownOffset
    let t := writeMeasuredOffset h v s
    let u := foldOffset h v s
    ((headRec t h).offsetValid = true ∧ (headRec u h).offsetValid = true) ∧
    (∀ k, k ≠ h → headRec t k = headRec s k ∧ headRec u k = headRec s k) ∧
    (tracking s h = false →
      effectiveOffset t h = clip v ∧ effectiveOffset u h = clip (effectiveOffset s h + v) ∧
      (headRec t h).offsetDiff = r.offsetDiff ∧ (headRec u h).offsetDiff = r.offsetDiff) ∧
    (tracking s h = true →
      effectiveOffset t h = clip (o + clip (v - o)) ∧ effectiveOffset u h = clip (o + clip (r.offsetDiff + v)) ∧
      (headRec t h).ownOffset = r.ownOffset ∧ (headRec u h).ownOffset = r.ownOffset)

/-! ### Targets -/

/-- A HOLD frame below H sets its head's target, with the track masked to 20 bits and the offset clamped; with SEEK it marks
the head seeking and leaves the settle count, without it the settle count becomes S at the end of a seek or at a new target.
It is then offered to the FIFO with the bytes it came with. At or above H it is only offered. Only a target change of the
bound head or of the step's head reaches learning and plan. The model's choices: `retargeted` is its own field (log 23), and a
frame admitted to an empty FIFO is begun at once (log 21). -/
def Obligations.HoldSetsTheTarget : Prop :=
  ∀ (s : State) (f : HoldFrame),
    let h := f.head.toNat
    let track := f.track.toNat % 2 ^ 20
    let offset := max (-512) (min 511 f.offset.toInt)
    let seek := f.flags.getLsbD 0
    let c := headContext s h
    let differs := !c.targetValid || c.targetTrack != track || c.targetOffset != offset
    linkCheck .bench f.bytes = none →
    (h < s.settings.headCount → ∃ t, exec (.hold f) s = .next t ∧
      headContext t h = { c with
        targetValid := true
        targetTrack := track
        targetOffset := offset
        seeking := seek
        settle := if !seek && (c.seeking || differs) then s.settings.switchSettle else c.settle
        retargeted := if seek || differs then !seek && decide (0 < s.settings.switchSettle) else c.retargeted } ∧
      (∀ k, k ≠ h → headContext t k = headContext s k) ∧
      (s.link.fifo.length < 16 → t.link = { s.link with fifo := s.link.fifo ++ [f.bytes], frontSending := true }) ∧
      (16 ≤ s.link.fifo.length → t.link = { s.link with latch := { s.link.latch with fifoDrop := true } }) ∧
      ((seek = false ∧ differs = false) ∨ (boundTo s h = false ∧ stepHead s ≠ some h) →
        t.engine = s.engine ∧ t.plan = s.plan) ∧
      t.pending = s.pending ∧ t.out = s.out ∧ t.settings = s.settings ∧ t.headRecs = s.headRecs ∧
      t.linTab = s.linTab ∧ t.activeHead = s.activeHead ∧ t.clock = s.clock ∧ t.runout = s.runout ∧
      t.defects = s.defects ∧ t.steps = s.steps ∧ t.alerts.mask = s.alerts.mask) ∧
    (s.settings.headCount ≤ h →
      (s.link.fifo.length < 16 → exec (.hold f) s = .next { s with link :=
        { s.link with fifo := s.link.fifo ++ [f.bytes], frontSending := true } }) ∧
      (16 ≤ s.link.fifo.length → exec (.hold f) s = .next { s with
        link := { s.link with latch := { s.link.latch with fifoDrop := true } }
        alerts := { s.alerts with flags := raised s.alerts.flags [8], counters := counted s 6 1 } }))

/-- The three notices that end the measurement of the current ACTIVE step: a HOLD frame that changes the target of the step's
head; an eligible frame that switches away from it; a slip, whoever's frame it is. The step returns to WAITING with its wait
timer started again and its tallies kept; an accumulation on its head is thrown away under the same pass number, and the
pass-restart counter moves; a pass that waits or a pending solve stands. -/
def Obligations.NoticesDiscardTheMeasurement : Prop :=
  (∀ (s : State) (f : HoldFrame) (n : Nat),
    let h := f.head.toNat
    let c := headContext s h
    linkCheck .bench f.bytes = none → h < s.settings.headCount →
    (f.flags.getLsbD 0 = true ∨ c.targetValid = false ∨ c.targetTrack ≠ f.track.toNat % 2 ^ 20 ∨
      c.targetOffset ≠ max (-512) (min 511 f.offset.toInt)) →
    s.plan.current = some n → s.plan.sub = some .active → (planStep s n).head = h →
    ∃ t, exec (.hold f) s = .next t ∧ MeasurementDiscarded s t n) ∧
  (∀ (s : State) (arrival n g : Nat) (f : WedgeFrame),
    let r := readWedge f
    Arrives arrival f s → eligible s r.head r.wedge = true → s.activeHead = some g → g ≠ r.head →
    s.plan.current = some n → s.plan.sub = some .active → (planStep s n).head = g →
    (s.engine.pass ≠ .unbound → boundTo s g = true) →
    ∃ t, exec (.wedge arrival f) s = .next t ∧ MeasurementDiscarded s t n) ∧
  (∀ (s : State) (arrival n : Nat) (f : WedgeFrame),
    let r := readWedge f
    Arrives arrival f s → r.wedge < s.settings.wedges → rulingOn arrival r s = .slip →
    s.plan.current = some n → s.plan.sub = some .active → (s.engine.pass = .solve → r.index = false) →
    (s.engine.pass ≠ .unbound → boundTo s (planStep s n).head = true) →
    ∃ t, exec (.wedge arrival f) s = .next t ∧ MeasurementDiscarded s t n)

/-! ### The wedge clock -/

/-- The wedge periods of one revolution sum exactly to L. -/
def Obligations.PeriodsSumToTheRevolution : Prop :=
  ∀ (c : Clock) (wedges : Nat), c.period * wedges + c.remainder = c.revLength → c.remainder < wedges →
    ((List.range wedges).map (wedgePeriod c)).sum = c.revLength

/-- Acquisition, for the frames the clock takes below W. The index frame that ends a started measurement: a good one (sequence
good, W frames, P in 200..65535) locks the clock on L, P and r, expects wedge 1, stops the budget refresh timer, raises
CLOCK_LOCKED and offers the CLOCK_NOTICE; any other is counted, keeps the rest of the clock, and starts a new measurement.
The index frame that starts one: in UNLOCKED, in LOST, and in ACQUIRING with none started, it leads to ACQUIRING, with itself as
the first frame, good if its wedge is 0. A frame without INDEX counts in a started measurement, up to 513, which is good no
longer where its wedge is not the number counted before it. Every frame taken in ACQUIRING starts the idle timer again, and
so does one that leads there; in UNLOCKED and LOST a frame without INDEX leaves the clock as it is. The stamp does not move.
The model's choices: the acquisition record is not started after the lock (log 12), and an arrival before the measurement's
start counts as length 0 (log 15). -/
def Obligations.LockMeasuresTheRevolution : Prop :=
  (∀ (s : State) (arrival : Nat) (f : WedgeFrame) (a : Acquisition),
    let r := readWedge f
    let w := s.settings.wedges
    let length := arrival - a.start
    let period := length / w
    let good := a.good = true ∧ a.frames = w ∧ 200 ≤ period ∧ period ≤ 65535
    Arrives arrival f s → r.wedge < w → 64 ≤ w → r.index = true →
    s.clock.state = .acquiring → s.clock.acquisition = some a →
    ∃ t, exec (.wedge arrival f) s = .next t ∧ t.clock.stamp = s.clock.stamp ∧
      t.clock.idleTimer = some s.settings.idleTime ∧
      (good →
        t.clock.state = .locked ∧ t.clock.revLength = length ∧ t.clock.period = period ∧
        t.clock.remainder = length % w ∧ t.clock.lastIndex = some arrival ∧ t.clock.missCount = 0 ∧
        t.clock.missed = [] ∧ t.clock.acquisition = none ∧
        t.clock.expected = some
          { wedge := 1
            predicted := arrival + (if length % w = 0 then period else period + 1)
            halfWidth := period / 2 ^ (s.settings.windowCode + 2) } ∧
        t.out.refreshTimer = none ∧ t.alerts.flags.getLsbD 1 = true ∧ readCounter t 12 = readCounter s 12 ∧
        (s.out.sending.isSome = true → s.out.report.length < 32 → ∃ later, t.out.report = s.out.report ++
          reportBytes 1 s.clock.stamp ([1, 0] ++ be 4 length ++ be 2 period ++ be 2 (length % w)) :: later)) ∧
      (¬good →
        t.clock = { s.clock with
          acquisition := some { start := arrival, frames := 1, good := r.wedge == 0 }
          idleTimer := some s.settings.idleTime } ∧
        t.out.refreshTimer = s.out.refreshTimer ∧ readCounter t 12 = saturated (readCounter s 12) 1)) ∧
  (∀ (s : State) (arrival : Nat) (f : WedgeFrame),
    let r := readWedge f
    let c := s.clock
    let idle := some s.settings.idleTime
    Arrives arrival f s → r.wedge < s.settings.wedges →
    (c.state = .unlocked ∨ c.state = .lost ∨ c.state = .acquiring) →
    (r.index = true → c.state = .acquiring → c.acquisition = none) →
    ∃ t, exec (.wedge arrival f) s = .next t ∧
      readCounter t 12 = readCounter s 12 ∧ t.out.refreshTimer = s.out.refreshTimer ∧
      (r.index = true → t.clock = { c with
        state := .acquiring
        acquisition := some { start := arrival, frames := 1, good := r.wedge == 0 }
        idleTimer := idle }) ∧
      (r.index = false → c.state = .acquiring →
        (∀ a, c.acquisition = some a → t.clock = { c with
          acquisition := some { a with frames := min (a.frames + 1) 513, good := a.good && r.wedge == a.frames }
          idleTimer := idle }) ∧
        (c.acquisition = none → t.clock = { c with idleTimer := idle })) ∧
      (r.index = false → c.state ≠ .acquiring → t.clock = c))

/-- The rulings on a frame in LOCKED or COASTING, with INDEX or without, and the clock after each. A frame finds its expectation
if its wedge is the expected one and INDEX stands at wedge 0 alone. Inside the window: LOCKED, misses emptied, the next wedge
predicted from the arrival (an index frame measures L anew first: OnTimeIndexFrameRemeasures). Before the window: COASTING, the
next wedge, and the last index reference at wedge 0, by the prediction, the window miss counted. Any other frame of a wedge in
the missed list: the expectation stands. Anything else is a slip: ACQUIRING, not started even by an index frame, L, P and r
kept, counted. The idle timer starts again in each case (at a slip: log 11), and a frame that carries INDEX moves the stamp. -/
def Obligations.FramesAreRuledAgainstTheExpectation : Prop :=
  ∀ (s : State) (arrival : Nat) (f : WedgeFrame) (e : Expectation),
    let r := readWedge f
    let c := s.clock
    let found := r.wedge = e.wedge ∧ (r.index = true ↔ r.wedge = 0)
    let next := if r.wedge + 1 < s.settings.wedges then r.wedge + 1 else 0
    let step := if r.wedge < c.remainder then c.period + 1 else c.period
    let half := c.period / 2 ^ (s.settings.windowCode + 2)
    let idle := some s.settings.idleTime
    let stamp := if r.index then c.stamp + 1 else c.stamp
    Arrives arrival f s → r.wedge < s.settings.wedges →
    (c.state = .locked ∨ c.state = .coasting) → c.expected = some e →
    ∃ t, exec (.wedge arrival f) s = .next t ∧
      (found → r.wedge ≠ 0 → e.predicted ≤ arrival + e.halfWidth →
        t.clock = { c with
          state := .locked
          missCount := 0
          missed := []
          expected := some { wedge := next, predicted := arrival + step, halfWidth := half }
          idleTimer := idle } ∧ readCounter t 9 = readCounter s 9 ∧ readCounter t 11 = readCounter s 11) ∧
      (found → arrival + e.halfWidth < e.predicted →
        t.clock = { c with
          state := .coasting
          expected := some { wedge := next, predicted := e.predicted + step, halfWidth := half }
          lastIndex := if r.wedge = 0 then some e.predicted else c.lastIndex
          idleTimer := idle
          stamp := stamp } ∧ readCounter t 9 = saturated (readCounter s 9) 1 ∧ readCounter t 11 = readCounter s 11) ∧
      (¬found → r.wedge ∈ c.missed →
        t.clock = { c with idleTimer := idle, stamp := stamp } ∧ readCounter t 9 = readCounter s 9 ∧
          readCounter t 11 = readCounter s 11) ∧
      (¬found → r.wedge ∉ c.missed →
        t.clock.state = .acquiring ∧ t.clock.acquisition = none ∧ t.clock.expected = none ∧ t.clock.missed = [] ∧
        t.clock.missCount = 0 ∧ t.clock.revLength = c.revLength ∧ t.clock.period = c.period ∧
        t.clock.remainder = c.remainder ∧ t.clock.stamp = stamp ∧ t.clock.idleTimer = idle ∧
        t.out.refreshTimer = some 10 ∧
        readCounter t 9 = readCounter s 9 ∧ readCounter t 11 = saturated (readCounter s 11) 1)

/-- An index frame ruled on time measures L anew from the reference time of the last index wedge and distributes it, unless
the new P would be out of range: then the old L, P and r govern the revolution it begins. The idle timer starts again, and no
window miss or slip is counted. (An arrival before that reference time counts as length 0, the model's choice: log 15.) -/
def Obligations.OnTimeIndexFrameRemeasures : Prop :=
  ∀ (s : State) (arrival last : Nat) (f : WedgeFrame) (e : Expectation),
    let r := readWedge f
    let c := s.clock
    let w := s.settings.wedges
    let length := arrival - last
    let ok := 200 ≤ length / w ∧ length / w ≤ 65535
    Arrives arrival f s → r.wedge = 0 → r.index = true → 64 ≤ w →
    (c.state = .locked ∨ c.state = .coasting) → c.expected = some e → e.wedge = 0 →
    e.predicted ≤ arrival + e.halfWidth → c.lastIndex = some last →
    ∃ t, exec (.wedge arrival f) s = .next t ∧
      t.clock.state = .locked ∧ t.clock.lastIndex = some arrival ∧ t.clock.missCount = 0 ∧ t.clock.missed = [] ∧
      t.clock.stamp = c.stamp + 1 ∧ t.clock.idleTimer = some s.settings.idleTime ∧
      t.clock.acquisition = c.acquisition ∧
      readCounter t 9 = readCounter s 9 ∧ readCounter t 11 = readCounter s 11 ∧
      (ok → t.clock.revLength = length ∧ t.clock.period = length / w ∧ t.clock.remainder = length % w) ∧
      (¬ok → t.clock.revLength = c.revLength ∧ t.clock.period = c.period ∧ t.clock.remainder = c.remainder) ∧
      t.clock.expected = some
        { wedge := 1
          predicted := arrival + (if 0 < t.clock.remainder then t.clock.period + 1 else t.clock.period)
          halfWidth := t.clock.period / 2 ^ (s.settings.windowCode + 2) }

/-- The revolution stamp counts the index frames taken below W while the clock is LOCKED or COASTING, whatever their head and
ruling, and wraps. -/
def Obligations.StampCountsRevolutionEvents : Prop :=
  ∀ (s : State) (arrival : Nat) (f : WedgeFrame),
    let r := readWedge f
    Arrives arrival f s →
    ∃ t, exec (.wedge arrival f) s = .next t ∧
      t.clock.stamp = if r.index = true ∧ r.wedge < s.settings.wedges ∧
          (s.clock.state = .locked ∨ s.clock.state = .coasting)
        then s.clock.stamp + 1 else s.clock.stamp

/-- The window of the expected wedge closes. The wedge is counted as missed and the active head, unless RAW, gives a
synthesized POSITION: its last good track and held value, MISSED and HELD; a full LOOP queue loses its oldest frame to it,
counted. Below the loss limit the clock coasts on the prediction and nothing else moves. At the limit it is LOST with cause
1: L, P and r kept, CLOCK_LOST raised, a CLOCK_NOTICE offered, the idle timer stopped and the refresh timer started; it is a
departure, so a running accumulation is thrown away and counted, and an ACTIVE step goes back to WAITING. Where no wedge is
expected the command has no effect (the model's choice: log 4). A WEDGE frame that arrives after windows have closed finds
each of them declared missed first, at most 15, and is handled as a frame that comes after those WEDGE_MISSED (read from R64
to R66: log 5). -/
def Obligations.MissedWedgeCoastsOrLosesTheClock : Prop :=
  (∀ s : State, s.clock.expected = none → exec .wedgeMissed s = .next s) ∧
  (∀ (s : State) (e : Expectation),
    let c := s.clock
    let synthesized := fun h => (s.activeHead = some h ∧ (headRec s h).mode ≠ .raw)
    c.expected = some e → (c.state = .locked ∨ c.state = .coasting) → s.out.sending.isSome = true →
    ∃ t, exec .wedgeMissed s = .next t ∧ readCounter t 10 = saturated (readCounter s 10) 1 ∧
      ((∀ h, ¬synthesized h) → t.out.loop = s.out.loop ∧ readCounter t 20 = readCounter s 20 ∧
        readCounter t 13 = readCounter s 13) ∧
      (∀ h, synthesized h → readCounter t 20 = saturated (readCounter s 20) 1 ∧
        readCounter t 13 = (if s.out.loop.length < 8 then readCounter s 13 else saturated (readCounter s 13) 1) ∧
        t.out.loop = (if s.out.loop.length < 8 then s.out.loop else s.out.loop.drop 1) ++ [positionFrame
          { head := h
            wedge := e.wedge
            track := (headContext s h).lastTrack
            eOut := (headContext s h).held
            flags :=
              { missed := true
                held := true
                offtrack := (headContext s h).monitor == .tripped
                attention := attention s } }]) ∧
      t.contexts = s.contexts ∧ t.activeHead = s.activeHead ∧ t.defects = s.defects ∧ t.runout = s.runout ∧
      t.headRecs = s.headRecs ∧ t.linTab = s.linTab ∧ t.steps = s.steps ∧ t.settings = s.settings ∧
      t.link = s.link ∧ t.pending = s.pending ∧ t.alerts.mask = s.alerts.mask ∧
      (c.missCount + 1 < s.settings.lossLimit →
        t.clock = { c with
          state := .coasting
          missCount := c.missCount + 1
          missed := c.missed ++ [e.wedge]
          lastIndex := if e.wedge = 0 then some e.predicted else c.lastIndex
          expected := some
            { wedge := if e.wedge + 1 < s.settings.wedges then e.wedge + 1 else 0
              predicted := e.predicted + (if e.wedge < c.remainder then c.period + 1 else c.period)
              halfWidth := c.period / 2 ^ (s.settings.windowCode + 2) } } ∧
        t.engine = s.engine ∧ t.plan = s.plan ∧ t.alerts.flags = s.alerts.flags ∧ t.out.report = s.out.report) ∧
      (s.settings.lossLimit ≤ c.missCount + 1 →
        t.clock.state = .lost ∧ t.clock.expected = none ∧ t.clock.missed = [] ∧ t.clock.missCount = 0 ∧
        t.clock.acquisition = none ∧ t.clock.idleTimer = none ∧ t.clock.revLength = c.revLength ∧
        t.clock.period = c.period ∧ t.clock.remainder = c.remainder ∧ t.clock.stamp = c.stamp ∧
        t.out.refreshTimer = some 10 ∧ ClockLossNoticed s t ∧
        (s.out.report.length < 32 → t.alerts.flags = raised s.alerts.flags [0] ∧ t.out.report = s.out.report ++
          [reportBytes 1 c.stamp ([2, 1] ++ be 4 c.revLength ++ be 2 c.period ++ be 2 c.remainder)]))) ∧
  (∀ (s : State) (arrival : Nat) (f : WedgeFrame), linkCheck .front f.bytes = none → s.settings.lossLimit ≤ 15 →
    ∃ k u, k ≤ 15 ∧ runs (List.replicate k .wedgeMissed) s = some u ∧
      (∀ j < k, ∃ v, runs (List.replicate j .wedgeMissed) s = some v ∧ windowPast arrival v.clock = true) ∧
      Arrives arrival f u ∧ exec (.wedge arrival f) s = exec (.wedge arrival f) u)

/-- The idle timer runs out: the clock is LOST with cause 2. From LOCKED or COASTING this is a departure: the budget refresh
timer starts, an accumulation is discarded and an ACTIVE step returns to WAITING; from ACQUIRING it is none. While the
timer is stopped the command has no effect (the model's choice: log 4). -/
def Obligations.IdleTimeoutLosesTheClock : Prop :=
  (∀ s : State, s.clock.idleTimer = none → exec .idleTimeout s = .next s) ∧
  (∀ s : State, s.clock.idleTimer.isSome = true → s.out.sending.isSome = true → s.out.report.length < 32 →
    ∃ t, exec .idleTimeout s = .next t ∧
      t.clock.state = .lost ∧ t.clock.expected = none ∧ t.clock.missed = [] ∧ t.clock.missCount = 0 ∧
      t.clock.acquisition = none ∧ t.clock.idleTimer = none ∧ t.clock.revLength = s.clock.revLength ∧
      t.clock.period = s.clock.period ∧ t.clock.remainder = s.clock.remainder ∧ t.clock.stamp = s.clock.stamp ∧
      t.alerts.flags = raised s.alerts.flags [0] ∧
      t.out.report = s.out.report ++ [reportBytes 1 s.clock.stamp
        ([2, 2] ++ be 4 s.clock.revLength ++ be 2 s.clock.period ++ be 2 s.clock.remainder)] ∧
      (s.clock.state = .locked ∨ s.clock.state = .coasting →
        t.out.refreshTimer = some 10 ∧ ClockLossNoticed s t) ∧
      (s.clock.state = .acquiring → t.out.refreshTimer = s.out.refreshTimer ∧ t.engine = s.engine ∧ t.plan = s.plan) ∧
      t.pending = s.pending ∧ t.link = s.link ∧ t.settings = s.settings ∧ t.headRecs = s.headRecs ∧
      t.linTab = s.linTab ∧ t.contexts = s.contexts ∧ t.activeHead = s.activeHead ∧ t.runout = s.runout ∧
      t.defects = s.defects ∧ t.steps = s.steps ∧ t.alerts.mask = s.alerts.mask)

/-! ### Learning -/

/-- A completed revolution event of the head of a LEARN step that is ACTIVE, with no slip and no switch, or that becomes
ACTIVE at this frame (not directly after a HOLD that changes the target: R57, R86, log 23): in UNBOUND the engine binds with
the step's parameters and begins pass 1; in READY it begins the pass that waits, under its number; in ACCUMULATE it counts a
revolution, and at the M-th enters SOLVE with the solve of the cells as they stand. A pass begins with empty cells, and the
frame's own sample is the first it may take; the frame that ends one gives none. -/
def Obligations.PassesBeginAndEndAtRevolutionEvents : Prop :=
  ∀ (s : State) (arrival n : Nat) (f : WedgeFrame),
    let r := readWedge f
    let p := planStep s n
    let ec := unclampedError s r
    Arrives arrival f s → eligible s r.head r.wedge = true → r.index = true →
    (s.plan.sub = some .active ∧ s.activeHead = some r.head ∧ (s.clock.state = .locked ∨ s.clock.state = .coasting) ∧
        rulingOn arrival r s ≠ .slip) ∨ (s.plan.sub = some .waiting ∧ becomesActive arrival r s = true) →
    s.plan.current = some n → p.phase = .learn → p.head = r.head →
    ∃ t, exec (.wedge arrival f) s = .next t ∧
      (s.engine.pass = .unbound →
        t.engine.pass = .accumulate ∧ t.engine.binding = some { head := r.head, step := n } ∧
        t.engine.passNumber = 1 ∧ t.engine.revs = 0 ∧ t.engine.params = some
          { revolutions := 2 ^ p.m, passes := p.passes, gain := p.gain, limit := min p.limitA 2047, fold := p.fold } ∧
        (DefectsHeld s → FreshCells arrival r s t)) ∧
      (∀ q, s.engine.pass = .ready → boundTo s r.head = true → s.engine.params = some q →
        t.engine = { s.engine with pass := .accumulate, revs := 0, cells := t.engine.cells } ∧
        (1 ≤ q.revolutions → DefectsHeld s → FreshCells arrival r s t)) ∧
      (∀ b q, s.engine.pass = .accumulate → s.engine.binding = some b → b.head = r.head → s.engine.params = some q →
        (s.engine.revs + 1 < q.revolutions → t.engine.pass = .accumulate ∧ t.engine.revs = s.engine.revs + 1 ∧
          (DefectsHeld s → ∀ k, engineCell t k =
            let cell := engineCell s k
            if k = r.wedge ∧ sampleable arrival r s t = true ∧ cell.count < q.revolutions
            then { sum := cell.sum + ec, count := cell.count + 1 } else cell)) ∧
        (q.revolutions ≤ s.engine.revs + 1 → t.engine.pass = .solve ∧ t.engine.cells = s.engine.cells ∧
          t.engine.pendingSolve = some (computeSolve r.head q s)))

/-- The solve of a pass of M revolutions over W wedges: a wedge with at least ceil(M / 2) samples is updated by its mean
scaled by k / 16, rounded, and any other is thin and moves by 0; with fold, the mean of all moves, rounded, is the fold D;
every new entry is the old one plus its move less D, clamped; the figures count what was updated, thin and clamped and give
the largest move. -/
def Obligations.SolveComputesEveryEntry : Prop :=
  ∀ (s : State) (h : Nat) (p : PassParams),
    let w := s.settings.wedges
    let v := computeSolve h p s
    let updated := fun k => decide (p.revolutions ≤ 2 * (engineCell s k).count)
    1 ≤ p.revolutions → 1 ≤ w →
    ∃ move : Nat → Int,
      (∀ k < w, updated k = true →
        Rounded (move k) ((engineCell s k).sum * p.gain) (16 * (engineCell s k).count)) ∧
      (∀ k < w, updated k = false → move k = 0) ∧
      (p.fold = true → Rounded v.meanFold (((List.range w).map move).sum) w) ∧ (p.fold = false → v.meanFold = 0) ∧
      v.entries = (List.range w).map (fun k =>
        max (-2048) (min 2047 (runoutEntry s h k + move k - v.meanFold))) ∧
      v.updated = (List.range w).countP updated ∧ v.updated + v.thin = w ∧
      v.saturated = (List.range w).countP (fun k =>
        decide (runoutEntry s h k + move k - v.meanFold < -2048 ∨ 2047 < runoutEntry s h k + move k - v.meanFold)) ∧
      (∀ k < w, updated k = true → (move k - v.meanFold).natAbs ≤ v.largest) ∧
      (v.largest = 0 ∨ ∃ k < w, updated k = true ∧ (move k - v.meanFold).natAbs = v.largest)

/-- The apply of a pending solve, at an index frame of the bound head whatever the clock says: every entry of the head below
W is replaced at once, every other entry of the table stays, the thin count is added to its counter, the solve is gone, and
a pass with fold makes the head's offset valid. In a part whose plan and learning stand as PlanHeld says: a pass with fold
moves the head's effective offset by D, each sum clamped, and one without writes no record; a PASS_SUMMARY with the
figures is offered, behind the CLOCK_NOTICE if the frame locks the clock; the step ends CONVERGED (some wedge updated, the
largest change within a limit above 0), else COMPLETED (at the last pass), its STEP_RESULT next with the tallies as the apply
leaves them, and a further step of the head may become ACTIVE, and bind the engine, at this same frame; else the next pass,
under the next number, begins at this frame if the step is ACTIVE, and waits READY if not, and the tallies take the pass in.
(The model's choices: the revolutions counted are 0 from the apply on, log 14; no step becomes ACTIVE here directly after a
HOLD that changes the target, log 23.) -/
def Obligations.ApplyReplacesTheEntries : Prop :=
  ∀ (s : State) (arrival : Nat) (f : WedgeFrame) (b : Binding) (p : PassParams) (v : PendingSolve),
    let r := readWedge f
    let clip := fun x : Int => max (-8192) (min 8191 x)
    let o := (headRec s (headRec s r.head).refHead).ownOffset
    let converged := 0 < p.limit ∧ 0 < v.updated ∧ v.largest ≤ p.limit
    let completed := s.engine.passNumber = p.passes
    let applied := s.plan.tallies.applied + 1
    let foldTotal := s.plan.tallies.foldTotal + v.meanFold
    let summary := be 1 b.step ++ be 1 r.head ++ be 1 s.engine.passNumber ++ be 2 v.updated ++ be 2 v.thin ++
      be 2 v.saturated ++ beInt 2 v.meanFold ++ be 2 v.largest
    Arrives arrival f s → eligible s r.head r.wedge = true → r.index = true →
    s.engine.pass = .solve → s.engine.binding = some b → b.head = r.head → s.engine.params = some p →
    s.engine.pendingSolve = some v → v.entries.length = s.settings.wedges → s.settings.wedges ≤ 512 →
    ∃ t, exec (.wedge arrival f) s = .next t ∧
      (∀ k x, v.entries[k]? = some x → runoutEntry t r.head k = x) ∧
      (∀ h k, k < 512 → h ≠ r.head ∨ s.settings.wedges ≤ k → runoutEntry t h k = runoutEntry s h k) ∧
      readCounter t 22 = saturated (readCounter s 22) v.thin ∧
      t.engine.pendingSolve = none ∧ (p.fold = true → (headRec t r.head).offsetValid = true) ∧
      (PlanHeld s →
        (p.fold = false → t.headRecs = s.headRecs) ∧
        (p.fold = true → effectiveOffset t r.head =
          if tracking s r.head then clip (o + clip ((headRec s r.head).offsetDiff + v.meanFold))
          else clip (effectiveOffset s r.head + v.meanFold)) ∧
        (s.out.sending.isSome = true → s.out.report.length ≤ 29 →
          (∀ c ∈ s.defects, c.2.head = r.head → c.2.state ≠ .suspect) →
          ∃ before after,
            (s.clock.state = .locked ∨ s.clock.state = .coasting → before = []) ∧
            t.out.report = s.out.report ++ before ++ reportBytes 2 t.clock.stamp summary ::
              (if converged ∨ completed
               then reportBytes 5 t.clock.stamp
                (resultRecord b.step r.head 3 (if converged then 2 else 3) applied v.largest foldTotal) :: after
               else after)) ∧
        (converged ∨ completed →
          StepEnded s t b.step false ∧
          (t.plan.current = some (b.step + 1) → (t.plan.sub = some .active ↔
            (planStep s (b.step + 1)).head = r.head ∧ becomesActive arrival r s = true)) ∧
          t.engine.binding = if t.plan.sub = some .active ∧ (planStep s (b.step + 1)).phase = .learn
            then some { head := r.head, step := b.step + 1 } else none) ∧
        (¬converged → ¬completed →
          t.plan.current = some b.step ∧ t.plan.tallies = ⟨applied, v.largest, foldTotal⟩ ∧
          (t.plan.sub = some .active ↔ (s.plan.sub = some .active ∧ rulingOn arrival r s ≠ .slip) ∨
            (s.plan.sub = some .waiting ∧ becomesActive arrival r s = true)) ∧
          t.engine = { s.engine with
            pendingSolve := none
            passNumber := s.engine.passNumber + 1
            revs := 0
            pass := if t.plan.sub = some .active then .accumulate else .ready
            cells := t.engine.cells } ∧
          (t.plan.sub = some .active → 1 ≤ p.revolutions → DefectsHeld s → FreshCells arrival r s t)))

/-- While the accumulator is bound, no command but power-on reset changes an entry of the bound head, unless a solve is
pending and the command brings an eligible index frame of that head. -/
def Obligations.BoundEntriesChangeOnlyByTheApply : Prop :=
  ∀ (c : Instr) (s t : State) (h w : Nat),
    boundTo s h = true → w < 512 → c ≠ .powerOnReset → (s.engine.pass = .solve → ¬BringsIndexFrame c h s) →
    exec c s = .next t → runoutEntry t h w = runoutEntry s h w

/-- The learning cells change only by being cleared, or by a WEDGE frame at the front port that finds the clock LOCKED. -/
def Obligations.SamplesComeOnlyUnderALockedClock : Prop :=
  ∀ (c : Instr) (s t : State), exec c s = .next t →
    t.engine.cells = s.engine.cells ∨ t.engine.cells = [] ∨
      (s.clock.state = .locked ∧
        ∃ bytes, frontFrame c = some bytes ∧ linkCheck .front bytes = none ∧ frameKind bytes = 0x21)

/-! ### Defects -/

/-- DEFECT_ADD for a head and wedge in range. An entry they have becomes STATIC in its slot and keeps its hits and quiet (and
its hit mark: log 10). Else the lowest empty slot takes a fresh STATIC entry. In a full table it takes the slot of the SUSPECT
entry with the largest quiet, the lowest slot among equals, whose EVICTED notice is offered. The answer is DONE. Nothing
else changes but the latch and, at an eviction, what the notice's offer changes. -/
def Obligations.DefectAddMakesAStaticEntry : Prop :=
  ∀ (object : Byte) (q : Request) (s : State) (h w : Nat),
    let done := fun t : State => answerBytes 5 q.token 0 s.link.latch (attention t) object q.index []
    let fresh : DefectEntry := { head := h, wedge := w, state := .static, hits := 0, quiet := 0, mark := false }
    let alone := fun t : State =>
      t = { s with defects := t.defects, link := { s.link with latch := {} }, out := t.out } ∧
        (s.out.sending.isSome = true → t = answered (done t) { s with defects := t.defects })
    Admitted (.defectAdd object q) 5 object q s → q.count = 2 →
    (q.values.getD 0 0).toInt = h → h ≤ 23 → (q.values.getD 1 0).toInt = w → w ≤ 511 →
    Table.wf 256 s.defects = true →
    (∀ k e, findDefect s.defects h w = some (k, e) → ∃ t, exec (.defectAdd object q) s = .next t ∧
      OnlySlot s.defects t.defects k { e with state := .static } ∧ alone t) ∧
    (∀ k, Unlisted s.defects h w → LowestEmpty s.defects k → ∃ t, exec (.defectAdd object q) s = .next t ∧
      OnlySlot s.defects t.defects k fresh ∧ alone t) ∧
    (∀ k e, Unlisted s.defects h w → Full s.defects → Oldest s.defects k e →
      ∃ t, exec (.defectAdd object q) s = .next t ∧ OnlySlot s.defects t.defects k fresh ∧
        t = { s with
          defects := t.defects
          link := { s.link with latch := {} }
          out := t.out
          alerts := t.alerts } ∧
        (s.out.sending.isSome = true →
          Noticed s.clock.stamp (defectRecord 3 e.head e.wedge k 0 e.hits e.quiet) s t ∧
          t.out = { s.out with
            report := t.out.report
            budget := t.out.budget
            answer := s.out.answer ++ [done t] }))

/-- DEFECT_REMOVE takes out the entry of a head and wedge in range, if there is one, and nothing else; DEFECT_FLUSH takes out
the entries of its scope and head, or of every head at -1, and no other. -/
def Obligations.DefectRemoveAndFlushTakeOutTheNamedEntries : Prop :=
  (∀ (object : Byte) (q : Request) (s : State) (h w : Nat),
    Admitted (.defectRemove object q) 6 object q s → q.count = 2 →
    (q.values.getD 0 0).toInt = h → h ≤ 23 → (q.values.getD 1 0).toInt = w → w ≤ 511 →
    ∃ t, exec (.defectRemove object q) s = .next t ∧
      t = { s with defects := t.defects, link := { s.link with latch := {} }, out := t.out } ∧
      t.defects.Sublist s.defects ∧
      ∀ c, c ∈ t.defects ↔ c ∈ s.defects ∧ ¬(c.2.head = h ∧ c.2.wedge = w)) ∧
  (∀ (object : Byte) (q : Request) (s : State) (scope head : Int),
    Admitted (.defectFlush object q) 7 object q s → q.count = 2 →
    (q.values.getD 0 0).toInt = scope → 1 ≤ scope → scope ≤ 3 →
    (q.values.getD 1 0).toInt = head → -1 ≤ head → head ≤ 23 →
    ∃ t, exec (.defectFlush object q) s = .next t ∧
      t = { s with defects := t.defects, link := { s.link with latch := {} }, out := t.out } ∧
      t.defects.Sublist s.defects ∧
      ∀ c, c ∈ t.defects ↔ c ∈ s.defects ∧
        ¬((scope = 3 ∨ (scope = 1 ↔ c.2.state = .static)) ∧ (head = -1 ∨ head = c.2.head)))

/-- A FAULT frame (here without INDEX) of a head whose defect-learn enable is set is a hit. An entry found counts it, loses
its quiet, and is confirmed if SUSPECT and now at the threshold. A pair without one gets a new entry in the lowest empty
slot, or in a full table in the slot of the SUSPECT entry eviction takes. A full table without a SUSPECT entry stays, the
defect drop is counted and DEFECT_FULL raised. While a frame is being sent: a confirmation raises DEFECT_CONFIRMED and
offers its notice, a new SUSPECT entry its NEW notice, an eviction the EVICTED notice before it, each tested against the
budget and then admitted or dropped; any other hit offers none and raises nothing. -/
def Obligations.FaultFramesHitTheDefectTable : Prop :=
  ∀ (s : State) (arrival : Nat) (f : WedgeFrame),
    let r := readWedge f
    let t₀ := s.settings.confirmThreshold
    let fresh : DefectEntry :=
      { head := r.head
        wedge := r.wedge
        state := if t₀ ≤ 1 then .confirmed else .suspect
        hits := 1
        quiet := 0
        mark := true }
    let made := fun k => if t₀ ≤ 1 then defectRecord 2 r.head r.wedge k 3 1 0 else defectRecord 1 r.head r.wedge k 2 1 0
    Arrives arrival f s → eligible s r.head r.wedge = true → r.index = false →
    faulty (headRec s r.head).burstFloor r = true → (headRec s r.head).defectLearn = true →
    Table.wf 256 s.defects = true →
    ∃ t, exec (.wedge arrival f) s = .next t ∧
      (∀ k e, findDefect s.defects r.head r.wedge = some (k, e) →
        let confirmed := e.state = .suspect ∧ t₀ ≤ min (e.hits + 1) 15
        OnlySlot s.defects t.defects k { e with
          hits := min (e.hits + 1) 15
          quiet := 0
          mark := true
          state := if confirmed then .confirmed else e.state } ∧
        (s.out.sending.isSome = true →
          (confirmed → t.alerts.flags.getLsbD 3 = true ∧
            Noticed s.clock.stamp (defectRecord 2 r.head r.wedge k 3 (min (e.hits + 1) 15) 0) s t) ∧
          (¬confirmed → t.alerts.flags.getLsbD 3 = s.alerts.flags.getLsbD 3 ∧ NotNoticed s t))) ∧
      (∀ k, Unlisted s.defects r.head r.wedge → LowestEmpty s.defects k →
        OnlySlot s.defects t.defects k fresh ∧
        (s.out.sending.isSome = true → Noticed s.clock.stamp (made k) s t ∧
          t.alerts.flags.getLsbD 3 = (s.alerts.flags.getLsbD 3 || decide (t₀ ≤ 1)))) ∧
      (∀ k e, Unlisted s.defects r.head r.wedge → Full s.defects → Oldest s.defects k e →
        OnlySlot s.defects t.defects k fresh ∧
        (s.out.sending.isSome = true →
          (∃ u, Noticed s.clock.stamp (defectRecord 3 e.head e.wedge k 0 e.hits e.quiet) s u ∧
            Noticed s.clock.stamp (made k) u t) ∧
          t.alerts.flags.getLsbD 3 = (s.alerts.flags.getLsbD 3 || decide (t₀ ≤ 1)))) ∧
      (Unlisted s.defects r.head r.wedge → Full s.defects → (∀ c ∈ s.defects, c.2.state ≠ .suspect) →
        t.defects = s.defects ∧ readCounter t 18 = saturated (readCounter s 18) 1 ∧
          t.alerts.flags.getLsbD 4 = true ∧
          (s.out.sending.isSome = true → NotNoticed s t ∧ t.alerts.flags.getLsbD 3 = s.alerts.flags.getLsbD 3))

/-- A completed revolution event ages the entries of its head, in their slots: marks are cleared; a SUSPECT entry not hit
since the last event has quiet + 1, up to 255, and is removed once quiet has reached an age limit that is not 0. Entries
of other heads stay. (For a frame that is no hit itself.) The event first sets the report budget from the report limit;
while a frame is being sent and the queue has room, the AGED notices of the removed entries enter the REPORT queue in slot
order, as many as the budget lets pass, and the rest are counted. (That aging comes before whatever else the frame reports
is read from R95, R140 and 6.8: log 7.) -/
def Obligations.RevolutionEventsAgeDefects : Prop :=
  ∀ (s : State) (arrival : Nat) (f : WedgeFrame),
    let r := readWedge f
    let limit := s.settings.ageLimit
    let budget := s.settings.reportLimit
    let removed := s.defects.filter fun c => decide (c.2.head = r.head ∧ c.2.state = .suspect ∧ c.2.mark = false ∧
      limit ≠ 0 ∧ limit ≤ min (c.2.quiet + 1) 255)
    let notices := removed.map fun c => reportBytes 3 (s.clock.stamp + 1)
      (defectRecord 4 c.2.head c.2.wedge c.1 0 c.2.hits (min (c.2.quiet + 1) 255))
    let refused := if budget = 0 then 0 else removed.length - budget
    Arrives arrival f s → r.wedge < s.settings.wedges → r.index = true →
    (s.clock.state = .locked ∨ s.clock.state = .coasting) → Table.wf 256 s.defects = true →
    (faulty (headRec s r.head).burstFloor r = false ∨ (headRec s r.head).defectLearn = false) →
    ∃ t, exec (.wedge arrival f) s = .next t ∧
      (∀ k, Table.find? t.defects k =
        match Table.find? s.defects k with
        | none => none
        | some e =>
          if e.head ≠ r.head then some e
          else if e.state = .suspect ∧ e.mark = false then
            if limit ≠ 0 ∧ limit ≤ min (e.quiet + 1) 255 then none else some { e with quiet := min (e.quiet + 1) 255 }
          else some { e with mark := false }) ∧
      t.out.budget = (if budget = 0 then .unlimited else .left (budget - removed.length)) ∧
      readCounter t 17 = (if refused = 0 then readCounter s 17 else saturated (readCounter s 17) refused) ∧
      (s.out.sending.isSome = true → s.out.report.length + (removed.length - refused) ≤ 32 →
        (s.out.report ++ notices.take (removed.length - refused)) <+: t.out.report)

/-! ### The off-track monitor -/

/-- A counted frame, beyond if |E_out| is above T_o and within otherwise, moves its head's monitor by the table of R111, and
no other head's. So from CLEAR it takes D_t beyond frames in a row to trip, and from a trip D_r within frames in a row to
release. The trigger mode (0 ON_TRIP, 1 ON_RELEASE, 2 BOTH, 3 LEVEL) says which frames raise OFFTRACK and which transitions
offer an OFFTRACK_NOTICE; a full REPORT queue drops it, counted and raised. -/
def Obligations.MonitorNeedsARunOfFrames : Prop :=
  (∀ (s : State) (h w : Nat) (eOut : Int),
    let c := headContext s h
    let t := (monitorCount h w eOut s).1
    let d := headContext t h
    let transition := (monitorCount h w eOut s).2
    let beyond := s.settings.threshold < eOut.natAbs
    (c.monitor = .clear → ¬beyond → d.monitor = .clear ∧ d.run = 0 ∧ transition = .none) ∧
    (c.monitor = .clear → beyond → s.settings.tripCount ≤ 1 → d.monitor = .tripped ∧ d.run = 0 ∧ transition = .trip) ∧
    (c.monitor = .clear → beyond → 1 < s.settings.tripCount → d.monitor = .pending ∧ d.run = 1 ∧ transition = .none) ∧
    (c.monitor = .pending → ¬beyond → d.monitor = .clear ∧ d.run = 0 ∧ transition = .none) ∧
    (c.monitor = .pending → beyond → s.settings.tripCount ≤ c.run + 1 →
      d.monitor = .tripped ∧ d.run = 0 ∧ transition = .trip) ∧
    (c.monitor = .pending → beyond → c.run + 1 < s.settings.tripCount →
      d.monitor = .pending ∧ d.run = c.run + 1 ∧ transition = .none) ∧
    (c.monitor = .tripped → ¬beyond → s.settings.releaseCount ≤ c.run + 1 →
      d.monitor = .clear ∧ d.run = 0 ∧ transition = .release) ∧
    (c.monitor = .tripped → ¬beyond → c.run + 1 < s.settings.releaseCount →
      d.monitor = .tripped ∧ d.run = c.run + 1 ∧ transition = .none) ∧
    (c.monitor = .tripped → beyond → d.monitor = .tripped ∧ d.run = 0 ∧ transition = .none) ∧
    (∀ k, k ≠ h → headContext t k = headContext s k) ∧
    (let mode := s.settings.triggerMode
      let announced := (transition = .trip ∧ (mode = 0 ∨ mode = 2 ∨ mode = 3)) ∨
        (transition = .release ∧ (mode = 1 ∨ mode = 2))
      let raises := announced ∨ (mode = 3 ∧ transition = .none ∧ d.monitor = .tripped)
      let notice := reportBytes 4 s.clock.stamp
        ([if transition = .trip then 1 else 2] ++ be 1 h ++ be 2 w ++ be 2 eOut.natAbs)
      t.alerts.flags.getLsbD 2 = (s.alerts.flags.getLsbD 2 || decide raises) ∧
      (¬announced → t.out = s.out) ∧
      (announced → s.out.report.length < 32 → s.out.sending.isSome = true →
        t.out = { s.out with report := s.out.report ++ [notice] }) ∧
      (announced → 32 ≤ s.out.report.length →
        t.out = s.out ∧ t.alerts.flags.getLsbD 5 = true ∧ readCounter t 15 = saturated (readCounter s 15) 1))) ∧
  (∀ (s : State) (h w : Nat) (errors : List Int),
    let t := errors.foldl (fun s x => (monitorCount h w x s).1) s
    let d := headContext t h
    errors ≠ [] →
    ((headContext s h).monitor = .clear → (∀ x ∈ errors, s.settings.threshold < x.natAbs) →
      (errors.length < s.settings.tripCount → d.monitor = .pending ∧ d.run = errors.length) ∧
      (s.settings.tripCount ≤ errors.length → d.monitor = .tripped)) ∧
    ((headContext s h).monitor = .tripped → (headContext s h).run = 0 →
      (∀ x ∈ errors, x.natAbs ≤ s.settings.threshold) →
      (errors.length < s.settings.releaseCount → d.monitor = .tripped ∧ d.run = errors.length) ∧
      (s.settings.releaseCount ≤ errors.length → d.monitor = .clear)))

/-! ### Plans -/

/-- PLAN_START outside RUNNING enters step 0 WAITING, with cleared tallies and registers and its wait timer started; with no
step 0 the plan is ENDED at once, with a PLAN_END report of reason COMPLETE and the PLAN_END alert. -/
def Obligations.PlanStartEntersStepZero : Prop :=
  ∀ (object : Byte) (q : Request) (s : State),
    Admitted (.planStart object q) 3 object q s → s.plan.state ≠ .running → s.out.sending.isSome = true →
    ((planStep s 0).phase ≠ .none → exec (.planStart object q) s = .next
      (answered (answerBytes 3 q.token 0 s.link.latch (attention s) object q.index [])
        { s with plan :=
          { state := .running
            current := some 0
            sub := some .waiting
            waitTimer := timerOf (planStep s 0)
            ended := 0
            failed := 0
            last := none
            regs := {}
            tallies := {} } })) ∧
    ((planStep s 0).phase = .none → s.out.report.length < 32 → ∃ t, exec (.planStart object q) s = .next t ∧
      t.plan.state = .ended ∧ t.plan.current = none ∧ t.plan.sub = none ∧
      t.alerts = { s.alerts with flags := raised s.alerts.flags [11] } ∧
      t.out = { s.out with
        report := s.out.report ++ [reportBytes 6 s.clock.stamp [1, 0, 0, 0]]
        answer := s.out.answer ++ [answerBytes 3 q.token 0 s.link.latch (attention t) object q.index []] } ∧
      t = { s with plan := t.plan, alerts := t.alerts, out := t.out, link := { s.link with latch := {} } })

/-- A WAITING step becomes ACTIVE at a completed revolution event of its head whose frame leaves the clock LOCKED, the target
valid, no seek and no settle frame: registers cleared, wait timer stopped, tallies kept, the frame's own contribution judged.
At any other eligible frame the plan stays as it is. A HOLD without SEEK that changes the target, with S above 0, taken
directly before an eligible frame of its head, index frame or not: a WAITING step does not become ACTIVE at that frame, and a
pass that waits does not begin. (No apply with it: of that, ApplyReplacesTheEntries.) The model's choices: the exception of
R57 and R86 limits R121 where the settle count is worked off by this very frame (log 23); SETTLE's mark takes this frame in
(log 14). -/
def Obligations.StepsBecomeActiveAtRevolutionEvents : Prop :=
  (∀ (s : State) (arrival : Nat) (f : WedgeFrame),
    let r := readWedge f
    Arrives arrival f s → eligible s r.head r.wedge = true → s.plan.sub = some .waiting →
    (r.index = true → DefectsHeld s) → (boundTo s r.head = false ∨ s.engine.pass ≠ .solve) →
    ∃ t, exec (.wedge arrival f) s = .next t ∧
      (becomesActive arrival r s = true →
        t.plan = fedPlan arrival r s t { s.plan with sub := some .active, regs := {}, waitTimer := none }) ∧
      (becomesActive arrival r s = false → t.plan = s.plan)) ∧
  (∀ (s : State) (arrival : Nat) (hold : HoldFrame) (f : WedgeFrame),
    let r := readWedge f
    let h := hold.head.toNat
    let c := headContext s h
    linkCheck .bench hold.bytes = none → h < s.settings.headCount → hold.flags.getLsbD 0 = false →
    (c.targetValid = false ∨ c.targetTrack ≠ hold.track.toNat % 2 ^ 20 ∨
      c.targetOffset ≠ max (-512) (min 511 hold.offset.toInt)) →
    0 < s.settings.switchSettle → r.head = h →
    ∃ t, exec (.hold hold) s = .next t ∧
      (Arrives arrival f t → eligible t r.head r.wedge = true → t.plan.sub = some .waiting →
        (r.index = true → DefectsHeld t) → (boundTo t r.head = false ∨ t.engine.pass ≠ .solve) →
        ∃ u, exec (.wedge arrival f) t = .next u ∧ u.plan = t.plan ∧
          (boundTo t r.head = true → t.engine.pass = .ready → u.engine = t.engine)))

/-- PLAN_STOP in RUNNING ends the current step ABORTED and the plan STOPPED: STEP_RESULT, then PLAN_END; STEP_DONE and
PLAN_END raised; the engine unbound if it was bound to the step. The STEP_RESULT carries the phase's figures as the registers
and tallies stand: partial ones of an ACTIVE step; of a WAITING one cleared ones (PlanHeld). In IDLE and ENDED it changes
nothing. It answers DONE.
(That registers and tallies stay after the plan's end is the model's choice: log 14.) -/
def Obligations.PlanStopAbortsTheStep : Prop :=
  ∀ (object : Byte) (q : Request) (s : State),
    let p := fun n => planStep s n
    let figures := fun n => unfinishedFigures s (p n)
    Admitted (.planStop object q) 4 object q s → s.out.sending.isSome = true →
    (∀ n, s.plan.state = .running → s.plan.current = some n → s.out.report.length ≤ 30 →
      ∃ t, exec (.planStop object q) s = .next t ∧
        t.plan = { s.plan with
          state := .ended
          current := none
          sub := none
          waitTimer := none
          ended := s.plan.ended + 1
          last := some n } ∧
        ((∀ b, s.engine.binding = some b → b.step ≠ n) → t.engine = s.engine) ∧
        ((∃ b, s.engine.binding = some b ∧ b.step = n) → t.engine = {}) ∧
        t.alerts = { s.alerts with flags := raised s.alerts.flags [9, 11] } ∧
        t.out = { s.out with
          report := s.out.report ++ [reportBytes 5 s.clock.stamp (resultRecord n (p n).head (phaseByte (p n).phase) 8
              (figures n).1 (figures n).2.1 (figures n).2.2),
            reportBytes 6 s.clock.stamp [2, BitVec.ofNat 8 (s.plan.ended + 1), BitVec.ofNat 8 s.plan.failed,
              BitVec.ofNat 8 n]]
          answer := s.out.answer ++ [answerBytes 4 q.token 0 s.link.latch (attention t) object q.index []] } ∧
        t = { s with
          plan := t.plan
          engine := t.engine
          alerts := t.alerts
          out := t.out
          link := { s.link with latch := {} } }) ∧
    (s.plan.state ≠ .running → exec (.planStop object q) s = .next
      (answered (answerBytes 4 q.token 0 s.link.latch (attention s) object q.index []) s))

/-- The wait timer runs out: the current step ends TIMEOUT_WAIT, a failure. With on-fail STOP, or with no further step, the
plan ends; else the next step is entered WAITING. The STEP_RESULT carries a LEARN step's tallies; in a part whose plan stands
as PlanHeld says, the other phases' figures are 0, but for OFFSET's second, the head's effective offset. The model's choices:
while the timer is stopped the command has no effect (log 4), and registers and tallies stay after the plan's end (log 14). -/
def Obligations.WaitTimeoutFailsTheStep : Prop :=
  (∀ s : State, s.plan.waitTimer = none → exec .timeoutWait s = .next s) ∧
  (∀ (s : State) (n : Nat), s.plan.waitTimer.isSome = true → s.plan.current = some n →
    s.out.sending.isSome = true → s.out.report.length ≤ 30 →
    let stop := (planStep s n).onFail = .stop
    let noNext := n = 31 ∨ (planStep s (n + 1)).phase = .none
    let p := planStep s n
    let figures := unfinishedFigures s p
    let result := reportBytes 5 s.clock.stamp
      (resultRecord n p.head (phaseByte p.phase) 7 figures.1 figures.2.1 figures.2.2)
    (PlanHeld s → p.phase ≠ .learn → figures = (0, if p.phase = .offset then effectiveOffset s p.head else 0, 0)) ∧
    ∃ t, exec .timeoutWait s = .next t ∧
      (stop ∨ noNext →
        t.plan = { s.plan with
          state := .ended
          current := none
          sub := none
          waitTimer := none
          ended := s.plan.ended + 1
          failed := s.plan.failed + 1
          last := some n } ∧
        t.alerts = { s.alerts with flags := raised s.alerts.flags [10, 11], counters := counted s 23 1 } ∧
        ∃ reason : Byte, (stop → reason = 3) ∧ (¬stop → reason = 1) ∧
          t.out = { s.out with report := s.out.report ++ [result, reportBytes 6 s.clock.stamp
            [reason, BitVec.ofNat 8 (s.plan.ended + 1), BitVec.ofNat 8 (s.plan.failed + 1), BitVec.ofNat 8 n]] }) ∧
      (¬stop → ¬noNext →
        t.plan = { s.plan with
          current := some (n + 1)
          sub := some .waiting
          waitTimer := timerOf (planStep s (n + 1))
          regs := {}
          tallies := {}
          ended := s.plan.ended + 1
          failed := s.plan.failed + 1
          last := some n } ∧
        t.alerts = { s.alerts with flags := raised s.alerts.flags [10], counters := counted s 23 1 } ∧
        t.out = { s.out with report := s.out.report ++ [result] }) ∧
      ((∀ b, s.engine.binding = some b → b.step ≠ n) → t.engine = s.engine) ∧
      ((∃ b, s.engine.binding = some b ∧ b.step = n) → t.engine = {}) ∧
      t = { s with plan := t.plan, engine := t.engine, alerts := t.alerts, out := t.out })

/-- A completed revolution event of the head of an ACTIVE SETTLE, OFFSET or VERIFY step, no slip with it, in a part whose
plan and learning stand as PlanHeld says. SETTLE (A clean revolutions, limit A taken as 1 for 0 and as 255 above it): the
revolution counts as used, and as clean unless marked; at A clean ones in a row the step ends PASSED, else at 4 A used ones
TIMEOUT_SETTLE. OFFSET, at its M-th revolution: with at least half the frames the rounded mean is written (a tracking head
moves by its difference from the reference) and the step ends PASSED, else FAILED_THIN and no record changes. VERIFY, at its
M-th revolution: FAILED_THIN on fewer than half the frames, else FAILED_LIMIT on a greatest above limit A or a mean above
limit B, else PASSED. Before that the step goes on, and the frame's own contribution belongs to the revolution it begins. A
further step of the head becomes ACTIVE at the same frame if it leaves the clock LOCKED. The STEP_RESULT carries the phase's
figures as they stand. And from cleared registers, A clean revolutions in a row end a SETTLE step, and fewer do not. -/
def Obligations.MeasurementsEndAtTheirLastRevolution : Prop :=
  (∀ (s : State) (arrival n : Nat) (f : WedgeFrame),
    let r := readWedge f
    let p := planStep s n
    let g := s.plan.regs
    let half := s.settings.wedges * 2 ^ p.m
    let result := fun (t : State) (phase outcome : Byte) (figures : Int × Int × Int) =>
      s.out.sending.isSome = true → s.out.report.length < 32 →
      (∀ c ∈ s.defects, c.2.head = r.head → c.2.state ≠ .suspect) → ∃ after, t.out.report = s.out.report ++
        reportBytes 5 (s.clock.stamp + 1) (resultRecord n r.head phase outcome figures.1 figures.2.1 figures.2.2) :: after
    Arrives arrival f s → PlanHeld s → eligible s r.head r.wedge = true → r.index = true →
    rulingOn arrival r s ≠ .slip → s.plan.current = some n → s.plan.sub = some .active → p.head = r.head →
    ∃ t, exec (.wedge arrival f) s = .next t ∧
      (t.plan.current = some (n + 1) →
        (t.plan.sub = some .active ↔ (planStep s (n + 1)).head = r.head ∧ t.clock.state = .locked)) ∧
      (p.phase = .settle →
        let a := if p.limitA = 0 then 1 else min p.limitA 255
        let used := g.settleUsed + 1
        let clean := if g.settleMark then 0 else g.settleClean + 1
        t.headRecs = s.headRecs ∧
        (a ≤ clean → StepEnded s t n false ∧ result t 1 1 (used, g.settleTrips, clean)) ∧
        (clean < a → 4 * a ≤ used → StepEnded s t n true ∧ result t 1 6 (used, g.settleTrips, clean)) ∧
        (clean < a → used < 4 * a → StepGoesOn s t n ∧
          (DefectsHeld s → t.plan.regs = fed arrival r s t .settle
            { g with settleUsed := used, settleClean := clean, settleMark := false }))) ∧
      (p.phase = .offset → 1 ≤ s.settings.wedges →
        let old := effectiveOffset s r.head
        let clip := fun x : Int => max (-8192) (min 8191 x)
        let o := (headRec s (headRec s r.head).refHead).ownOffset
        (g.offsetRevs + 1 < 2 ^ p.m →
          StepGoesOn s t n ∧ t.headRecs = s.headRecs ∧
          (DefectsHeld s → t.plan.regs = fed arrival r s t .offset { g with offsetRevs := g.offsetRevs + 1 })) ∧
        (2 ^ p.m ≤ g.offsetRevs + 1 → half ≤ 2 * g.offsetCount → StepEnded s t n false ∧
          ∃ v, Rounded v g.offsetSum g.offsetCount ∧ result t 2 1 (v, old, g.offsetCount) ∧
            (headRec t r.head).offsetValid = true ∧ (∀ k, k ≠ r.head → headRec t k = headRec s k) ∧
            effectiveOffset t r.head = if tracking s r.head then clip (o + clip (v - o)) else clip v) ∧
        (2 ^ p.m ≤ g.offsetRevs + 1 → 2 * g.offsetCount < half →
          StepEnded s t n true ∧ t.headRecs = s.headRecs ∧ result t 2 4 (0, old, g.offsetCount))) ∧
      (p.phase = .verify →
        let mean := if g.verifyCount = 0 then 0 else g.verifySum / g.verifyCount
        let beyond := p.limitA < g.verifyGreatest ∨ p.limitB < mean
        t.headRecs = s.headRecs ∧
        (g.verifyRevs + 1 < 2 ^ p.m → StepGoesOn s t n ∧
          (DefectsHeld s → t.plan.regs = fed arrival r s t .verify { g with verifyRevs := g.verifyRevs + 1 })) ∧
        (2 ^ p.m ≤ g.verifyRevs + 1 → 2 * g.verifyCount < half →
          StepEnded s t n true ∧ result t 4 4 (g.verifyGreatest, mean, g.verifyCount)) ∧
        (2 ^ p.m ≤ g.verifyRevs + 1 → half ≤ 2 * g.verifyCount → beyond →
          StepEnded s t n true ∧ result t 4 5 (g.verifyGreatest, mean, g.verifyCount)) ∧
        (2 ^ p.m ≤ g.verifyRevs + 1 → half ≤ 2 * g.verifyCount → ¬beyond →
          StepEnded s t n false ∧ result t 4 1 (g.verifyGreatest, mean, g.verifyCount)))) ∧
  (∀ (s : State) (n j : Nat),
    let p := planStep s n
    let a := if p.limitA = 0 then 1 else min p.limitA 255
    let t := (closeRevolution p.head)^[j] s
    s.plan.current = some n → s.plan.sub = some .active → p.phase = .settle →
    s.plan.regs.settleUsed = 0 → s.plan.regs.settleClean = 0 → s.plan.regs.settleMark = false →
    (j < a → t.plan.current = some n ∧ t.plan.sub = some .active ∧ t.plan.ended = s.plan.ended ∧
      t.plan.regs.settleClean = j) ∧
    (j = a → t.plan.last = some n ∧ t.plan.ended = s.plan.ended + 1 ∧ t.plan.failed = s.plan.failed))

/-! ### Management requests -/

/-- A request that passes its checks but finds the ANSWER queue full is not executed: it is counted and ANSWER_DROPPED is
raised, and nothing else changes. -/
def Obligations.FullAnswerQueueDiscardsTheRequest : Prop :=
  ∀ (c : Instr) (code object : Byte) (q : Request) (s : State),
    requestOf c = some (code, object, q) → linkCheck .bench (q.bytes code object) = none → 4 ≤ s.out.answer.length →
    exec c s = .next { s with alerts :=
      { s.alerts with flags := raised s.alerts.flags [6], counters := counted s 14 1 } }

/-- GET reads 1 to 8 cells of a known object as they stand and answers DONE with them; nothing changes but the answer and the
latch it carries away. What each cell reads, item by item of the manual's tables (the STATE object's and an empty defect
slot's among them), `cellValue` says. -/
def Obligations.GetAnswersTheCells : Prop :=
  ∀ (object : Byte) (q : Request) (s : State) (o : Obj),
    let n := max 1 (min q.count.toNat 8)
    Admitted (.get object q) 1 object q s → s.out.sending.isSome = true →
    objOf object.toNat = some o → q.index.toNat + n ≤ o.size →
    exec (.get object q) s = .next (answered (answerBytes 1 q.token 0 s.link.latch (attention s) object q.index
      ((List.range n).map fun i => cellValue s o (q.index.toNat + i))) s)

/-- An accepted SET, by any of its five rows: each cell of the range reads back as the value clamped to its field, 0 for a
counter, the twelve lowest positions for the alert mask; the cells outside the range stay, other counters and the mask
among them, a head's offset valid and effective offset apart (and the pass-restart counter where W is set in ACCUMULATE, which
an INUSE rules out in every run); offset valid becomes yes at a write of the own offset or the difference that does not
also write it; the answer is CLAMPED if a clamp acted and DONE otherwise. -/
def Obligations.SetReadsBack : Prop :=
  ∀ (c : Instr) (object : Byte) (q : Request) (s : State) (o : Obj),
    let first := q.index.toNat
    let n := q.count.toNat
    let value := fun i => (q.values.getD i 0).toInt
    let writes := fun (o' : Obj) k => o' = o ∧ first ≤ k ∧ k < first + n
    Admitted c 2 object q s → objOf object.toNat = some o → 1 ≤ n → first + n ≤ o.size →
    (∀ i < n, readOnlyCell o (first + i) = false ∧ heldCell s o (first + i) = false) →
    ∃ t, exec c s = .next t ∧
      (∀ i < n, cellValue t o (first + i) = setResult o (first + i) (value i)) ∧
      (∀ o' k, o' ∈ [Obj.setting, .lintab, .runout, .defect, .planstep, .alert] → k < o'.size →
        ¬writes o' k → cellValue t o' k = cellValue s o' k) ∧
      (∀ k, ¬writes .counter k → (o = .setting → s.engine.pass = .accumulate → k ≠ 19) →
        cellValue t .counter k = cellValue s .counter k) ∧
      (∀ k, k % 16 ≠ 10 → k % 16 ≠ 11 → ¬writes .headrec k → cellValue t .headrec k = cellValue s .headrec k) ∧
      (∀ h, ¬writes .headrec (h * 16 + 10) → (headRec t h).offsetValid =
        ((headRec s h).offsetValid ||
          decide (writes .headrec (h * 16 + 7)) || decide (writes .headrec (h * 16 + 9)))) ∧
      t.contexts = s.contexts ∧ t.activeHead = s.activeHead ∧ t.alerts.flags = s.alerts.flags ∧
      t.pending = s.pending ∧
      (s.out.sending.isSome = true → t.out.answer = s.out.answer ++ [answerBytes 2 q.token
        (if (List.range n).any (fun i => storedValue o (first + i) (value i) != value i) then 1 else 0)
        s.link.latch (attention t) object q.index []])

/-- A SET of W alone, while no plan runs and nothing is bound: W becomes the clamped value. A value that differs from the
one held sends the clock to UNLOCKED, with L, P, r, the expectation, the misses and the measurement cleared and the idle
timer stopped; if it was LOCKED or COASTING, the budget refresh timer runs and the departure is given to learning and plan.
The value held leaves the clock. -/
def Obligations.SettingWedgesUnlocksTheClock : Prop :=
  ∀ (q : Request) (s : State),
    let w := max 64 (min 512 (q.values.getD 0 0).toInt)
    Admitted (.setWedgesPerRevolution q) 2 1 q s → q.index = 1 → q.count = 1 →
    s.plan.state ≠ .running → s.engine.binding = none →
    ∃ t, exec (.setWedgesPerRevolution q) s = .next t ∧ t.settings = { s.settings with wedges := w.toNat } ∧
      (w = s.settings.wedges → t.clock = s.clock ∧ t.out.refreshTimer = s.out.refreshTimer) ∧
      (w ≠ s.settings.wedges →
        t.clock.state = .unlocked ∧ t.clock.revLength = 0 ∧ t.clock.period = 0 ∧ t.clock.remainder = 0 ∧
        t.clock.expected = none ∧ t.clock.missed = [] ∧ t.clock.missCount = 0 ∧ t.clock.acquisition = none ∧
        t.clock.idleTimer = none ∧ t.clock.stamp = s.clock.stamp ∧
        (s.clock.state = .locked ∨ s.clock.state = .coasting → t.out.refreshTimer = some 10 ∧ ClockLossNoticed s t)) ∧
      t.alerts.flags = s.alerts.flags ∧ (s.out.sending.isSome = true → t.out.report = s.out.report) ∧
      t.contexts = s.contexts ∧ t.headRecs = s.headRecs ∧ t.runout = s.runout ∧ t.defects = s.defects ∧ t.steps = s.steps

/-- A refused request (BUSY, INUSE, RANGE, FULL, READONLY, UNKNOWN) changes nothing but the answer it gets, which carries no
values and takes the latch with it. When it is refused, and with which status, `Refused` says rule by rule: an unknown
request or object code UNKNOWN; a GET or SET past the object's end, or a SET of no cell, RANGE; a SET that covers a cell
that cannot be written READONLY, one held by running work INUSE; PLAN_START in RUNNING BUSY; a defect request without its two
parameters in range RANGE; DEFECT_ADD without room FULL; ALERT_CLEAR and RUNOUT_ZERO without their parameter RANGE;
RUNOUT_ZERO of the bound head INUSE. Any other request is answered DONE or CLAMPED. (That an unknown object is UNKNOWN before
it is RANGE is read from R145: log 20.) -/
def Obligations.RefusedRequestsChangeNothing : Prop :=
  (∀ (c : Instr) (code object : Byte) (q : Request) (s : State) (status : Nat),
    Admitted c code object q s → Refused object q s code.toNat status → s.out.sending.isSome = true →
    exec c s = .next
      (answered (answerBytes code q.token status s.link.latch (attention s) object q.index []) s)) ∧
  (∀ (c : Instr) (code object : Byte) (q : Request) (s : State),
    let reply := (actionOf code (readRequest code object q) s).2
    Admitted c code object q s →
    (reply.status.code ≤ 1 ↔ ∀ status, ¬Refused object q s code.toNat status) ∧
    (2 ≤ reply.status.code → s.out.sending.isSome = true → exec c s = .next
      (answered (answerBytes code q.token reply.status.code s.link.latch (attention s) object q.index []) s)))

/-- ALERT_CLEAR with a count of at least 1 clears the flags whose positions are set in value 0, and no other; the answer's
attention byte is formed after the clear. RUNOUT_ZERO of a head in 0..23 that is not bound makes all 512 of its entries 0 and
leaves every other entry. -/
def Obligations.AlertClearAndRunoutZeroClearWhatTheyName : Prop :=
  (∀ (object : Byte) (q : Request) (s : State),
    Admitted (.alertClear object q) 8 object q s → 1 ≤ q.count.toNat → s.out.sending.isSome = true →
    ∃ t, exec (.alertClear object q) s = .next t ∧
      (∀ k < 12, t.alerts.flags.getLsbD k = (s.alerts.flags.getLsbD k && !(q.values.getD 0 0).getLsbD k)) ∧
      t = answered (answerBytes 8 q.token 0 s.link.latch (attention t) object q.index [])
        { s with alerts := { s.alerts with flags := t.alerts.flags } }) ∧
  (∀ (object : Byte) (q : Request) (s : State) (h : Nat),
    Admitted (.runoutZero object q) 9 object q s → 1 ≤ q.count.toNat → (q.values.getD 0 0).toInt = h → h ≤ 23 →
    boundTo s h = false → s.out.sending.isSome = true →
    ∃ t, exec (.runoutZero object q) s = .next t ∧
      (∀ k w, w < 512 → runoutEntry t k w = if k = h then 0 else runoutEntry s k w) ∧
      t = answered (answerBytes 9 q.token 0 s.link.latch (attention s) object q.index []) { s with runout := t.runout })

/-- RESTART keeps the settings, the mask and the tables the software loaded, with the STATIC entries, clears the rest, lets
the frames in transmission end, and answers DONE with no cause and no attention. Power-on reset returns everything to its
power-on value and answers nothing (that the queue of waiting commands stays is the model's choice: log 19). -/
def Obligations.ResetsKeepAndClear : Prop :=
  (∀ (object : Byte) (q : Request) (s : State), Admitted (.restart object q) 10 object q s →
    let reply := answerBytes 10 q.token 0 {} false object q.index []
    exec (.restart object q) s = .next
      { pending := s.pending
        settings := s.settings
        headRecs := s.headRecs
        linTab := s.linTab
        runout := s.runout
        steps := s.steps
        alerts := { flags := 0, mask := s.alerts.mask, counters := [] }
        defects := (s.defects.filter fun c => decide (c.2.state = .static)).map fun c => (c.1, { c.2 with mark := false })
        link :=
          { fifo := if s.link.frontSending then s.link.fifo.take 1 else []
            frontSending := s.link.frontSending
            latch := {} }
        out :=
          { loop := []
            answer := if s.out.sending.isSome then [reply] else []
            report := []
            status := []
            round := if s.out.sending.isSome then 0 else 1
            budget := if s.settings.reportLimit = 0 then .unlimited else .left s.settings.reportLimit
            refreshTimer := some 10
            sending := if s.out.sending.isSome then s.out.sending else some reply }
        contexts := []
        activeHead := none
        clock := {}
        engine := {}
        plan := {} }) ∧
  (∀ s : State, exec .powerOnReset s = .next { State.reset with pending := s.pending })

/-! ### Rules of the whole part -/

/-- No well-formed command but ALERT_CLEAR, RESTART and power-on reset clears an alert flag; and none but a SET of counters,
RESTART and power-on reset lowers a counter. -/
def Obligations.AlertsAndCountersOnlyRise : Prop :=
  ∀ (c : Instr) (s t : State), c.wellFormed = true → CountersHeld s → exec c s = .next t →
    (match c with
      | .powerOnReset | .alertClear _ _ | .restart _ _ => True
      | _ => s.alerts.flags &&& t.alerts.flags = s.alerts.flags) ∧
    (match c with
      | .powerOnReset | .setCounter _ | .restart _ _ => True
      | _ => ∀ k, readCounter s k ≤ readCounter t k)

/-- Who may change what, over the well-formed commands: the settings, step records and linearization tables change by SET and
power-on reset alone; the head records and the compensation table also by learning at a WEDGE frame, the latter also by
RUNOUT_ZERO; the contexts and the active head by frames and resets alone; the defects by WEDGE frames, defect requests and
resets; the mask by its own SET and power-on reset. -/
def Obligations.EachTableHasItsWriters : Prop :=
  ∀ (c : Instr) (s t : State), c.wellFormed = true → exec c s = .next t →
    (match c with
      | .powerOnReset | .set _ _ | .setWedgesPerRevolution _ => True
      | _ => t.settings = s.settings) ∧
    (match c with
      | .powerOnReset | .set _ _ => True
      | _ => t.steps = s.steps ∧ t.linTab = s.linTab) ∧
    (match c with
      | .powerOnReset | .wedge _ _ | .setHeadrec _ => True
      | _ => t.headRecs = s.headRecs) ∧
    (match c with
      | .powerOnReset | .wedge _ _ | .set _ _ | .runoutZero _ _ => True
      | _ => t.runout = s.runout) ∧
    (match c with
      | .powerOnReset | .wedge _ _ | .hold _ | .restart _ _ => True
      | _ => t.contexts = s.contexts) ∧
    (match c with
      | .powerOnReset | .wedge _ _ | .restart _ _ => True
      | _ => t.activeHead = s.activeHead) ∧
    (match c with
      | .powerOnReset | .wedge _ _ | .defectAdd _ _ | .defectRemove _ _ | .defectFlush _ _ | .restart _ _ => True
      | _ => t.defects = s.defects) ∧
    (match c with
      | .powerOnReset | .setAlertMask _ => True
      | _ => t.alerts.mask = s.alerts.mask)

/-! ### Invariants -/

/-- Every step keeps the contexts in range, with the settings that bound them. -/
def Obligations.ContextsStayInRange : Prop :=
  ∀ s t : State, ContextsHeld s → step s = .next t → ContextsHeld t

/-- Every step keeps what learning reads and writes in range: every compensation entry in -2048..+2047, no cell with more
samples than its pass has revolutions, every offset in -8192..+8191, a pending solve in SOLVE alone. -/
def Obligations.LearningStaysInRange : Prop :=
  ∀ s t : State, LearningHeld s → step s = .next t → LearningHeld t

/-- Every step keeps the defect table at 256 entries at most, no two for the same head and wedge. -/
def Obligations.DefectsStayUnique : Prop :=
  ∀ s t : State, DefectsHeld s → step s = .next t → DefectsHeld t

/-- Every step keeps the clock's law: in LOCKED and COASTING the periods sum to L, P lies in 200..65535, at most 14 misses
stand; elsewhere nothing is expected; the timers run as the clock state says. (That the acquisition record is not started in
LOCKED and COASTING is the model's choice: log 12.) -/
def Obligations.TheClockLawIsKept : Prop :=
  ∀ s t : State, ClockHeld s → step s = .next t → ClockHeld t

/-- Every step keeps plan and engine in step: a step is ACTIVE only while its head is active, settled, on a valid target, not
seeking and read under a running clock, and the engine accumulates only for it. (That no target change stands directly before
the head's next frame is the model's choice: log 23.) -/
def Obligations.ActiveStepsKeepTheirConditions : Prop :=
  ∀ s t : State, PlanHeld s → step s = .next t → PlanHeld t

/-- Every step keeps the queues within their capacities; every step keeps the transmitters at work, none idle while a frame
waits for it; every step keeps each counter at most 65535. (That the front transmitter is at work from a frame's admission to
an empty FIFO on is the model's choice: log 21.) -/
def Obligations.QueuesTransmittersAndCountersHold : Prop :=
  (∀ s t : State, CapacitiesHeld s → step s = .next t → CapacitiesHeld t) ∧
  (∀ s t : State, TransmittersHeld s → step s = .next t → TransmittersHeld t) ∧
  (∀ s t : State, CountersHeld s → step s = .next t → CountersHeld t)

/-- The part right after power-on reset meets every invariant. -/
def Obligations.ResetMeetsTheInvariants : Prop :=
  ContextsHeld State.reset ∧ LearningHeld State.reset ∧ DefectsHeld State.reset ∧ ClockHeld State.reset ∧
    PlanHeld State.reset ∧ CapacitiesHeld State.reset ∧ TransmittersHeld State.reset ∧ CountersHeld State.reset
end

