-- ==== Sys2Proof/Laws/Table.lean ====
section
/-! SUPPORT. What the table operations do: a cell read after a write, the other cells left alone, the canonical form kept. -/

namespace Sys2Proof.Laws

open Sys2Proof.Machine

variable {α : Type}

@[simp] theorem find?_nil (k : Nat) : Table.find? ([] : Table α) k = none := rfl

@[simp] theorem find?_cons (j k : Nat) (v : α) (t : Table α) :
    Table.find? ((j, v) :: t) k = if k = j then some v else Table.find? t k := rfl

/-! ### Reads after writes -/

theorem find?_put_same (t : Table α) (k : Nat) (v : α) : Table.find? (Table.put t k v) k = some v := by
  induction t with
  | nil => simp [Table.put]
  | cons c t ih =>
    obtain ⟨j, u⟩ := c
    simp only [Table.put]
    split
    · simp
    · split
      · simp
      · next h₁ h₂ => simp [h₂, ih]

theorem find?_put_ne (t : Table α) {k j : Nat} (v : α) (h : j ≠ k) :
    Table.find? (Table.put t k v) j = Table.find? t j := by
  induction t with
  | nil => simp [Table.put, h]
  | cons c t ih =>
    obtain ⟨i, u⟩ := c
    simp only [Table.put]
    split
    · simp [h]
    · split
      · next h₁ h₂ => subst h₂; simp [h]
      · simp [ih]

theorem find?_drop_same (t : Table α) (k : Nat) : Table.find? (Table.drop t k) k = none := by
  induction t with
  | nil => rfl
  | cons c t ih =>
    obtain ⟨j, u⟩ := c
    by_cases hj : j = k
    · subst hj
      have : Table.drop ((j, u) :: t) j = Table.drop t j := by simp [Table.drop]
      rw [this, ih]
    · have : Table.drop ((j, u) :: t) k = (j, u) :: Table.drop t k := by simp [Table.drop, hj]
      rw [this, find?_cons, if_neg (Ne.symm hj), ih]

theorem find?_drop_ne (t : Table α) {k j : Nat} (h : j ≠ k) :
    Table.find? (Table.drop t k) j = Table.find? t j := by
  induction t with
  | nil => rfl
  | cons c t ih =>
    obtain ⟨i, u⟩ := c
    by_cases hi : i = k
    · subst hi
      have : Table.drop ((i, u) :: t) i = Table.drop t i := by simp [Table.drop]
      rw [this, ih, find?_cons, if_neg h]
    · have : Table.drop ((i, u) :: t) k = (i, u) :: Table.drop t k := by simp [Table.drop, hi]
      rw [this, find?_cons, find?_cons, ih]

variable [DecidableEq α]

/-- A cell reads as what was last written to it. -/
@[simp] theorem get_set_same (d : α) (t : Table α) (k : Nat) (v : α) : Table.get d (Table.set d t k v) k = v := by
  unfold Table.get Table.set
  split
  · next h => rw [find?_drop_same, h]; rfl
  · rw [find?_put_same]; rfl

/-- A write leaves every other cell alone. -/
theorem get_set_ne (d : α) (t : Table α) {k j : Nat} (v : α) (h : j ≠ k) :
    Table.get d (Table.set d t k v) j = Table.get d t j := by
  unfold Table.get Table.set
  split
  · rw [find?_drop_ne t h]
  · rw [find?_put_ne t v h]

theorem get_set (d : α) (t : Table α) (k j : Nat) (v : α) :
    Table.get d (Table.set d t k v) j = if j = k then v else Table.get d t j := by
  split
  · next h => subst h; exact get_set_same d t j v
  · next h => exact get_set_ne d t v h

/-- `setAll` leaves the cells below and above its range alone. -/
theorem get_setAll_out (d : α) (vs : List α) :
    ∀ (t : Table α) (k j : Nat), (j < k ∨ k + vs.length ≤ j) → Table.get d (Table.setAll d t k vs) j = Table.get d t j := by
  induction vs with
  | nil => intro t k j _; rfl
  | cons v vs ih =>
    intro t k j h
    simp only [List.length_cons] at h
    rw [Table.setAll, ih _ (k + 1) j (by omega), get_set_ne d t v (by omega)]

/-- `setAll` writes its values in order. -/
theorem get_setAll_in (d : α) (vs : List α) :
    ∀ (t : Table α) (k i : Nat) (h : i < vs.length), Table.get d (Table.setAll d t k vs) (k + i) = vs[i] := by
  induction vs with
  | nil => intro _ _ i h; simp at h
  | cons v vs ih =>
    intro t k i h
    rw [Table.setAll]
    cases i with
    | zero =>
      show Table.get d (Table.setAll d (Table.set d t k v) (k + 1) vs) k = v
      rw [get_setAll_out d vs _ (k + 1) k (by omega), get_set_same]
    | succ i =>
      have := ih (Table.set d t k v) (k + 1) i (by simpa using h)
      rw [show k + (i + 1) = k + 1 + i by omega, this]; rfl

/-! ### The canonical form -/

omit [DecidableEq α] in
theorem rising_mono {lo lo' : Nat} (h : lo' ≤ lo) (t : Table α) (ht : Table.rising lo t = true) :
    Table.rising lo' t = true := by
  cases t with
  | nil => rfl
  | cons c t =>
    obtain ⟨j, v⟩ := c
    simp only [Table.rising, Bool.and_eq_true, decide_eq_true_eq] at *
    exact ⟨by omega, ht.2⟩

omit [DecidableEq α] in
theorem rising_put (t : Table α) (k : Nat) (v : α) :
    ∀ lo, lo ≤ k → Table.rising lo t = true → Table.rising lo (Table.put t k v) = true := by
  induction t with
  | nil => intro lo h _; simp [Table.put, Table.rising, h]
  | cons c t ih =>
    obtain ⟨j, u⟩ := c
    intro lo h ht
    simp only [Table.rising, Bool.and_eq_true, decide_eq_true_eq] at ht
    simp only [Table.put]
    split
    · next hk => simp [Table.rising, h, ht.2, hk]
    · split
      · next _ hk => subst hk; simp [Table.rising, ht.2, h]
      · next h₁ h₂ =>
        simp only [Table.rising, Bool.and_eq_true, decide_eq_true_eq]
        exact ⟨ht.1, ih (j + 1) (by omega) ht.2⟩

omit [DecidableEq α] in
theorem rising_filter (p : Nat × α → Bool) (t : Table α) :
    ∀ lo, Table.rising lo t = true → Table.rising lo (t.filter p) = true := by
  induction t with
  | nil => intro _ h; exact h
  | cons c t ih =>
    obtain ⟨j, u⟩ := c
    intro lo ht
    simp only [Table.rising, Bool.and_eq_true, decide_eq_true_eq] at ht
    simp only [List.filter_cons]
    split
    · simp only [Table.rising, Bool.and_eq_true, decide_eq_true_eq]
      exact ⟨ht.1, ih _ ht.2⟩
    · exact rising_mono (by omega) _ (ih _ ht.2)

omit [DecidableEq α] in
theorem mem_put {t : Table α} {k : Nat} {v : α} {c : Nat × α} (h : c ∈ Table.put t k v) : c = (k, v) ∨ c ∈ t := by
  induction t with
  | nil => simpa [Table.put] using h
  | cons e t ih =>
    obtain ⟨j, u⟩ := e
    simp only [Table.put] at h
    split at h
    · simpa using h
    · split at h
      · rcases List.mem_cons.1 h with h | h
        · exact .inl h
        · exact .inr (List.mem_cons_of_mem _ h)
      · rcases List.mem_cons.1 h with h | h
        · exact .inr (h ▸ List.mem_cons_self)
        · rcases ih h with h | h
          · exact .inl h
          · exact .inr (List.mem_cons_of_mem _ h)

omit [DecidableEq α] in
/-- A property of every listed cell survives a `put` of a cell that has it. -/
theorem forall_put {P : Nat × α → Prop} {t : Table α} {k : Nat} {v : α} (ht : ∀ c ∈ t, P c) (hv : P (k, v)) :
    ∀ c ∈ Table.put t k v, P c := by
  intro c hc
  rcases mem_put hc with h | h
  · exact h ▸ hv
  · exact ht c h

/-- A property of every listed cell survives a `set` of a cell that has it. -/
theorem forall_set {P : Nat × α → Prop} {d : α} {t : Table α} {k : Nat} {v : α} (ht : ∀ c ∈ t, P c) (hv : P (k, v)) :
    ∀ c ∈ Table.set d t k v, P c := by
  unfold Table.set
  split
  · intro c hc; exact ht c (List.mem_of_mem_filter hc)
  · exact forall_put ht hv

omit [DecidableEq α] in
theorem wf_put {n : Nat} {t : Table α} {k : Nat} (v : α) (ht : Table.wf n t = true) (hk : k < n) :
    Table.wf n (Table.put t k v) = true := by
  simp only [Table.wf, Bool.and_eq_true, List.all_eq_true, decide_eq_true_eq] at *
  exact ⟨rising_put t k v 0 (Nat.zero_le _) ht.1, forall_put ht.2 hk⟩

omit [DecidableEq α] in
theorem wf_filter {n : Nat} {t : Table α} (p : Nat × α → Bool) (ht : Table.wf n t = true) :
    Table.wf n (t.filter p) = true := by
  simp only [Table.wf, Bool.and_eq_true, List.all_eq_true, decide_eq_true_eq] at *
  exact ⟨rising_filter p t 0 ht.1, fun c hc => ht.2 c (List.mem_of_mem_filter hc)⟩

omit [DecidableEq α] in
theorem wf_drop {n : Nat} {t : Table α} (k : Nat) (ht : Table.wf n t = true) : Table.wf n (Table.drop t k) = true :=
  wf_filter _ ht

/-- A write below the bound keeps the canonical form. -/
theorem canonical_set {d : α} {n : Nat} {t : Table α} {k : Nat} (v : α) (ht : Table.canonical d n t = true) (hk : k < n) :
    Table.canonical d n (Table.set d t k v) = true := by
  simp only [Table.canonical, Bool.and_eq_true, List.all_eq_true, decide_eq_true_eq] at *
  unfold Table.set
  split
  · exact ⟨wf_drop k ht.1, fun c hc => ht.2 c (List.mem_of_mem_filter hc)⟩
  · next h => exact ⟨wf_put v ht.1 hk, forall_put ht.2 h⟩

/-- Removing cells keeps the canonical form. -/
theorem canonical_filter {d : α} {n : Nat} {t : Table α} (p : Nat × α → Bool) (ht : Table.canonical d n t = true) :
    Table.canonical d n (t.filter p) = true := by
  simp only [Table.canonical, Bool.and_eq_true, List.all_eq_true, decide_eq_true_eq] at *
  exact ⟨wf_filter p ht.1, fun c hc => ht.2 c (List.mem_of_mem_filter hc)⟩

/-- `setAll` within the bound keeps the canonical form. -/
theorem canonical_setAll {d : α} {n : Nat} (vs : List α) :
    ∀ (t : Table α) (k : Nat), Table.canonical d n t = true → k + vs.length ≤ n →
      Table.canonical d n (Table.setAll d t k vs) = true := by
  induction vs with
  | nil => intro t k h _; exact h
  | cons v vs ih =>
    intro t k h hk
    simp only [List.length_cons] at hk
    rw [Table.setAll]
    exact ih _ _ (canonical_set v h (by omega)) (by omega)

omit [DecidableEq α] in
/-- Equal canonical tables read alike and are equal data: every listed cell is what the table reads at its index. -/
theorem find?_of_mem {t : Table α} : ∀ lo, Table.rising lo t = true → ∀ c ∈ t, Table.find? t c.1 = some c.2 := by
  induction t with
  | nil => intro _ _ c hc; simp at hc
  | cons e t ih =>
    obtain ⟨j, u⟩ := e
    intro lo ht c hc
    simp only [Table.rising, Bool.and_eq_true, decide_eq_true_eq] at ht
    have low : ∀ (t : Table α) (m : Nat), Table.rising m t = true → ∀ c ∈ t, m ≤ c.1 := by
      intro t
      induction t with
      | nil => intro _ _ c hc; simp at hc
      | cons e t ih =>
        intro m hm c hc
        obtain ⟨i, w⟩ := e
        simp only [Table.rising, Bool.and_eq_true, decide_eq_true_eq] at hm
        rcases List.mem_cons.1 hc with h | h
        · subst h; exact hm.1
        · have := ih (i + 1) hm.2 c h; omega
    rcases List.mem_cons.1 hc with h | h
    · subst h; simp
    · have hj := low t (j + 1) ht.2 c h
      rw [find?_cons, if_neg (by omega)]
      exact ih (j + 1) ht.2 c h

end Sys2Proof.Laws
end

