-- ==== Sys2Proof/Laws/State.lean ====
section
/-! SUPPORT. One lemma per field for each elementary update of the state: what it writes, and that it leaves the other fields
alone. All hold by unfolding one record update. -/

namespace Sys2Proof.Laws

open Sys2Proof.Machine

section
variable (l : Latch) (s : State)
@[simp] theorem setLatch_pending : (setLatch l s).pending = s.pending := rfl
@[simp] theorem setLatch_link : (setLatch l s).link = { s.link with latch := l } := rfl
@[simp] theorem setLatch_out : (setLatch l s).out = s.out := rfl
@[simp] theorem setLatch_alerts : (setLatch l s).alerts = s.alerts := rfl
@[simp] theorem setLatch_settings : (setLatch l s).settings = s.settings := rfl
@[simp] theorem setLatch_headRecs : (setLatch l s).headRecs = s.headRecs := rfl
@[simp] theorem setLatch_linTab : (setLatch l s).linTab = s.linTab := rfl
@[simp] theorem setLatch_contexts : (setLatch l s).contexts = s.contexts := rfl
@[simp] theorem setLatch_activeHead : (setLatch l s).activeHead = s.activeHead := rfl
@[simp] theorem setLatch_clock : (setLatch l s).clock = s.clock := rfl
@[simp] theorem setLatch_runout : (setLatch l s).runout = s.runout := rfl
@[simp] theorem setLatch_engine : (setLatch l s).engine = s.engine := rfl
@[simp] theorem setLatch_defects : (setLatch l s).defects = s.defects := rfl
@[simp] theorem setLatch_steps : (setLatch l s).steps = s.steps := rfl
@[simp] theorem setLatch_plan : (setLatch l s).plan = s.plan := rfl
end

section
variable (a : Alert) (s : State)
@[simp] theorem raise_pending : (raise a s).pending = s.pending := rfl
@[simp] theorem raise_link : (raise a s).link = s.link := rfl
@[simp] theorem raise_out : (raise a s).out = s.out := rfl
@[simp] theorem raise_alerts : (raise a s).alerts = { s.alerts with flags := s.alerts.flags ||| a.weight } := rfl
@[simp] theorem raise_settings : (raise a s).settings = s.settings := rfl
@[simp] theorem raise_headRecs : (raise a s).headRecs = s.headRecs := rfl
@[simp] theorem raise_linTab : (raise a s).linTab = s.linTab := rfl
@[simp] theorem raise_contexts : (raise a s).contexts = s.contexts := rfl
@[simp] theorem raise_activeHead : (raise a s).activeHead = s.activeHead := rfl
@[simp] theorem raise_clock : (raise a s).clock = s.clock := rfl
@[simp] theorem raise_runout : (raise a s).runout = s.runout := rfl
@[simp] theorem raise_engine : (raise a s).engine = s.engine := rfl
@[simp] theorem raise_defects : (raise a s).defects = s.defects := rfl
@[simp] theorem raise_steps : (raise a s).steps = s.steps := rfl
@[simp] theorem raise_plan : (raise a s).plan = s.plan := rfl
end

section
variable (m : BitVec 12) (s : State)
@[simp] theorem clearAlerts_pending : (clearAlerts m s).pending = s.pending := rfl
@[simp] theorem clearAlerts_link : (clearAlerts m s).link = s.link := rfl
@[simp] theorem clearAlerts_out : (clearAlerts m s).out = s.out := rfl
@[simp] theorem clearAlerts_alerts : (clearAlerts m s).alerts = { s.alerts with flags := s.alerts.flags &&& ~~~m } := rfl
@[simp] theorem clearAlerts_settings : (clearAlerts m s).settings = s.settings := rfl
@[simp] theorem clearAlerts_headRecs : (clearAlerts m s).headRecs = s.headRecs := rfl
@[simp] theorem clearAlerts_linTab : (clearAlerts m s).linTab = s.linTab := rfl
@[simp] theorem clearAlerts_contexts : (clearAlerts m s).contexts = s.contexts := rfl
@[simp] theorem clearAlerts_activeHead : (clearAlerts m s).activeHead = s.activeHead := rfl
@[simp] theorem clearAlerts_clock : (clearAlerts m s).clock = s.clock := rfl
@[simp] theorem clearAlerts_runout : (clearAlerts m s).runout = s.runout := rfl
@[simp] theorem clearAlerts_engine : (clearAlerts m s).engine = s.engine := rfl
@[simp] theorem clearAlerts_defects : (clearAlerts m s).defects = s.defects := rfl
@[simp] theorem clearAlerts_steps : (clearAlerts m s).steps = s.steps := rfl
@[simp] theorem clearAlerts_plan : (clearAlerts m s).plan = s.plan := rfl
end

section
variable (m : BitVec 12) (s : State)
@[simp] theorem setMask_pending : (setMask m s).pending = s.pending := rfl
@[simp] theorem setMask_link : (setMask m s).link = s.link := rfl
@[simp] theorem setMask_out : (setMask m s).out = s.out := rfl
@[simp] theorem setMask_alerts : (setMask m s).alerts = { s.alerts with mask := m } := rfl
@[simp] theorem setMask_settings : (setMask m s).settings = s.settings := rfl
@[simp] theorem setMask_headRecs : (setMask m s).headRecs = s.headRecs := rfl
@[simp] theorem setMask_linTab : (setMask m s).linTab = s.linTab := rfl
@[simp] theorem setMask_contexts : (setMask m s).contexts = s.contexts := rfl
@[simp] theorem setMask_activeHead : (setMask m s).activeHead = s.activeHead := rfl
@[simp] theorem setMask_clock : (setMask m s).clock = s.clock := rfl
@[simp] theorem setMask_runout : (setMask m s).runout = s.runout := rfl
@[simp] theorem setMask_engine : (setMask m s).engine = s.engine := rfl
@[simp] theorem setMask_defects : (setMask m s).defects = s.defects := rfl
@[simp] theorem setMask_steps : (setMask m s).steps = s.steps := rfl
@[simp] theorem setMask_plan : (setMask m s).plan = s.plan := rfl
end

section
variable (k v : Nat) (s : State)
@[simp] theorem writeCounter_pending : (writeCounter k v s).pending = s.pending := rfl
@[simp] theorem writeCounter_link : (writeCounter k v s).link = s.link := rfl
@[simp] theorem writeCounter_out : (writeCounter k v s).out = s.out := rfl
@[simp] theorem writeCounter_alerts : (writeCounter k v s).alerts = { s.alerts with counters := Table.set 0 s.alerts.counters k v } := rfl
@[simp] theorem writeCounter_settings : (writeCounter k v s).settings = s.settings := rfl
@[simp] theorem writeCounter_headRecs : (writeCounter k v s).headRecs = s.headRecs := rfl
@[simp] theorem writeCounter_linTab : (writeCounter k v s).linTab = s.linTab := rfl
@[simp] theorem writeCounter_contexts : (writeCounter k v s).contexts = s.contexts := rfl
@[simp] theorem writeCounter_activeHead : (writeCounter k v s).activeHead = s.activeHead := rfl
@[simp] theorem writeCounter_clock : (writeCounter k v s).clock = s.clock := rfl
@[simp] theorem writeCounter_runout : (writeCounter k v s).runout = s.runout := rfl
@[simp] theorem writeCounter_engine : (writeCounter k v s).engine = s.engine := rfl
@[simp] theorem writeCounter_defects : (writeCounter k v s).defects = s.defects := rfl
@[simp] theorem writeCounter_steps : (writeCounter k v s).steps = s.steps := rfl
@[simp] theorem writeCounter_plan : (writeCounter k v s).plan = s.plan := rfl
end

section
variable (s : State)
@[simp] theorem refreshBudget_pending : (refreshBudget s).pending = s.pending := rfl
@[simp] theorem refreshBudget_link : (refreshBudget s).link = s.link := rfl
@[simp] theorem refreshBudget_out : (refreshBudget s).out = { s.out with budget := budgetOf s.settings.reportLimit } := rfl
@[simp] theorem refreshBudget_alerts : (refreshBudget s).alerts = s.alerts := rfl
@[simp] theorem refreshBudget_settings : (refreshBudget s).settings = s.settings := rfl
@[simp] theorem refreshBudget_headRecs : (refreshBudget s).headRecs = s.headRecs := rfl
@[simp] theorem refreshBudget_linTab : (refreshBudget s).linTab = s.linTab := rfl
@[simp] theorem refreshBudget_contexts : (refreshBudget s).contexts = s.contexts := rfl
@[simp] theorem refreshBudget_activeHead : (refreshBudget s).activeHead = s.activeHead := rfl
@[simp] theorem refreshBudget_clock : (refreshBudget s).clock = s.clock := rfl
@[simp] theorem refreshBudget_runout : (refreshBudget s).runout = s.runout := rfl
@[simp] theorem refreshBudget_engine : (refreshBudget s).engine = s.engine := rfl
@[simp] theorem refreshBudget_defects : (refreshBudget s).defects = s.defects := rfl
@[simp] theorem refreshBudget_steps : (refreshBudget s).steps = s.steps := rfl
@[simp] theorem refreshBudget_plan : (refreshBudget s).plan = s.plan := rfl
end

section
variable (m : Option Nat) (s : State)
@[simp] theorem setRefreshTimer_pending : (setRefreshTimer m s).pending = s.pending := rfl
@[simp] theorem setRefreshTimer_link : (setRefreshTimer m s).link = s.link := rfl
@[simp] theorem setRefreshTimer_out : (setRefreshTimer m s).out = { s.out with refreshTimer := m } := rfl
@[simp] theorem setRefreshTimer_alerts : (setRefreshTimer m s).alerts = s.alerts := rfl
@[simp] theorem setRefreshTimer_settings : (setRefreshTimer m s).settings = s.settings := rfl
@[simp] theorem setRefreshTimer_headRecs : (setRefreshTimer m s).headRecs = s.headRecs := rfl
@[simp] theorem setRefreshTimer_linTab : (setRefreshTimer m s).linTab = s.linTab := rfl
@[simp] theorem setRefreshTimer_contexts : (setRefreshTimer m s).contexts = s.contexts := rfl
@[simp] theorem setRefreshTimer_activeHead : (setRefreshTimer m s).activeHead = s.activeHead := rfl
@[simp] theorem setRefreshTimer_clock : (setRefreshTimer m s).clock = s.clock := rfl
@[simp] theorem setRefreshTimer_runout : (setRefreshTimer m s).runout = s.runout := rfl
@[simp] theorem setRefreshTimer_engine : (setRefreshTimer m s).engine = s.engine := rfl
@[simp] theorem setRefreshTimer_defects : (setRefreshTimer m s).defects = s.defects := rfl
@[simp] theorem setRefreshTimer_steps : (setRefreshTimer m s).steps = s.steps := rfl
@[simp] theorem setRefreshTimer_plan : (setRefreshTimer m s).plan = s.plan := rfl
end

section
variable (f : Frame) (s : State)
@[simp] theorem offerAnswer_pending : (offerAnswer f s).pending = s.pending := rfl
@[simp] theorem offerAnswer_link : (offerAnswer f s).link = s.link := rfl
@[simp] theorem offerAnswer_out : (offerAnswer f s).out = admitted { s.out with answer := s.out.answer ++ [f] } := rfl
@[simp] theorem offerAnswer_alerts : (offerAnswer f s).alerts = s.alerts := rfl
@[simp] theorem offerAnswer_settings : (offerAnswer f s).settings = s.settings := rfl
@[simp] theorem offerAnswer_headRecs : (offerAnswer f s).headRecs = s.headRecs := rfl
@[simp] theorem offerAnswer_linTab : (offerAnswer f s).linTab = s.linTab := rfl
@[simp] theorem offerAnswer_contexts : (offerAnswer f s).contexts = s.contexts := rfl
@[simp] theorem offerAnswer_activeHead : (offerAnswer f s).activeHead = s.activeHead := rfl
@[simp] theorem offerAnswer_clock : (offerAnswer f s).clock = s.clock := rfl
@[simp] theorem offerAnswer_runout : (offerAnswer f s).runout = s.runout := rfl
@[simp] theorem offerAnswer_engine : (offerAnswer f s).engine = s.engine := rfl
@[simp] theorem offerAnswer_defects : (offerAnswer f s).defects = s.defects := rfl
@[simp] theorem offerAnswer_steps : (offerAnswer f s).steps = s.steps := rfl
@[simp] theorem offerAnswer_plan : (offerAnswer f s).plan = s.plan := rfl
end

section
variable (h : Nat) (r : HeadRec) (s : State)
@[simp] theorem setHeadRec_pending : (setHeadRec h r s).pending = s.pending := rfl
@[simp] theorem setHeadRec_link : (setHeadRec h r s).link = s.link := rfl
@[simp] theorem setHeadRec_out : (setHeadRec h r s).out = s.out := rfl
@[simp] theorem setHeadRec_alerts : (setHeadRec h r s).alerts = s.alerts := rfl
@[simp] theorem setHeadRec_settings : (setHeadRec h r s).settings = s.settings := rfl
@[simp] theorem setHeadRec_headRecs : (setHeadRec h r s).headRecs = Table.set {} s.headRecs h r := rfl
@[simp] theorem setHeadRec_linTab : (setHeadRec h r s).linTab = s.linTab := rfl
@[simp] theorem setHeadRec_contexts : (setHeadRec h r s).contexts = s.contexts := rfl
@[simp] theorem setHeadRec_activeHead : (setHeadRec h r s).activeHead = s.activeHead := rfl
@[simp] theorem setHeadRec_clock : (setHeadRec h r s).clock = s.clock := rfl
@[simp] theorem setHeadRec_runout : (setHeadRec h r s).runout = s.runout := rfl
@[simp] theorem setHeadRec_engine : (setHeadRec h r s).engine = s.engine := rfl
@[simp] theorem setHeadRec_defects : (setHeadRec h r s).defects = s.defects := rfl
@[simp] theorem setHeadRec_steps : (setHeadRec h r s).steps = s.steps := rfl
@[simp] theorem setHeadRec_plan : (setHeadRec h r s).plan = s.plan := rfl
end

section
variable (h : Nat) (c : HeadContext) (s : State)
@[simp] theorem setHeadContext_pending : (setHeadContext h c s).pending = s.pending := rfl
@[simp] theorem setHeadContext_link : (setHeadContext h c s).link = s.link := rfl
@[simp] theorem setHeadContext_out : (setHeadContext h c s).out = s.out := rfl
@[simp] theorem setHeadContext_alerts : (setHeadContext h c s).alerts = s.alerts := rfl
@[simp] theorem setHeadContext_settings : (setHeadContext h c s).settings = s.settings := rfl
@[simp] theorem setHeadContext_headRecs : (setHeadContext h c s).headRecs = s.headRecs := rfl
@[simp] theorem setHeadContext_linTab : (setHeadContext h c s).linTab = s.linTab := rfl
@[simp] theorem setHeadContext_contexts : (setHeadContext h c s).contexts = Table.set {} s.contexts h c := rfl
@[simp] theorem setHeadContext_activeHead : (setHeadContext h c s).activeHead = s.activeHead := rfl
@[simp] theorem setHeadContext_clock : (setHeadContext h c s).clock = s.clock := rfl
@[simp] theorem setHeadContext_runout : (setHeadContext h c s).runout = s.runout := rfl
@[simp] theorem setHeadContext_engine : (setHeadContext h c s).engine = s.engine := rfl
@[simp] theorem setHeadContext_defects : (setHeadContext h c s).defects = s.defects := rfl
@[simp] theorem setHeadContext_steps : (setHeadContext h c s).steps = s.steps := rfl
@[simp] theorem setHeadContext_plan : (setHeadContext h c s).plan = s.plan := rfl
end

section
variable (e : Engine) (s : State)
@[simp] theorem setEngine_pending : (setEngine e s).pending = s.pending := rfl
@[simp] theorem setEngine_link : (setEngine e s).link = s.link := rfl
@[simp] theorem setEngine_out : (setEngine e s).out = s.out := rfl
@[simp] theorem setEngine_alerts : (setEngine e s).alerts = s.alerts := rfl
@[simp] theorem setEngine_settings : (setEngine e s).settings = s.settings := rfl
@[simp] theorem setEngine_headRecs : (setEngine e s).headRecs = s.headRecs := rfl
@[simp] theorem setEngine_linTab : (setEngine e s).linTab = s.linTab := rfl
@[simp] theorem setEngine_contexts : (setEngine e s).contexts = s.contexts := rfl
@[simp] theorem setEngine_activeHead : (setEngine e s).activeHead = s.activeHead := rfl
@[simp] theorem setEngine_clock : (setEngine e s).clock = s.clock := rfl
@[simp] theorem setEngine_runout : (setEngine e s).runout = s.runout := rfl
@[simp] theorem setEngine_engine : (setEngine e s).engine = e := rfl
@[simp] theorem setEngine_defects : (setEngine e s).defects = s.defects := rfl
@[simp] theorem setEngine_steps : (setEngine e s).steps = s.steps := rfl
@[simp] theorem setEngine_plan : (setEngine e s).plan = s.plan := rfl
end

section
variable (p : Plan) (s : State)
@[simp] theorem setPlan_pending : (setPlan p s).pending = s.pending := rfl
@[simp] theorem setPlan_link : (setPlan p s).link = s.link := rfl
@[simp] theorem setPlan_out : (setPlan p s).out = s.out := rfl
@[simp] theorem setPlan_alerts : (setPlan p s).alerts = s.alerts := rfl
@[simp] theorem setPlan_settings : (setPlan p s).settings = s.settings := rfl
@[simp] theorem setPlan_headRecs : (setPlan p s).headRecs = s.headRecs := rfl
@[simp] theorem setPlan_linTab : (setPlan p s).linTab = s.linTab := rfl
@[simp] theorem setPlan_contexts : (setPlan p s).contexts = s.contexts := rfl
@[simp] theorem setPlan_activeHead : (setPlan p s).activeHead = s.activeHead := rfl
@[simp] theorem setPlan_clock : (setPlan p s).clock = s.clock := rfl
@[simp] theorem setPlan_runout : (setPlan p s).runout = s.runout := rfl
@[simp] theorem setPlan_engine : (setPlan p s).engine = s.engine := rfl
@[simp] theorem setPlan_defects : (setPlan p s).defects = s.defects := rfl
@[simp] theorem setPlan_steps : (setPlan p s).steps = s.steps := rfl
@[simp] theorem setPlan_plan : (setPlan p s).plan = p := rfl
end

section
variable (t : Table DefectEntry) (s : State)
@[simp] theorem setDefects_pending : (setDefects t s).pending = s.pending := rfl
@[simp] theorem setDefects_link : (setDefects t s).link = s.link := rfl
@[simp] theorem setDefects_out : (setDefects t s).out = s.out := rfl
@[simp] theorem setDefects_alerts : (setDefects t s).alerts = s.alerts := rfl
@[simp] theorem setDefects_settings : (setDefects t s).settings = s.settings := rfl
@[simp] theorem setDefects_headRecs : (setDefects t s).headRecs = s.headRecs := rfl
@[simp] theorem setDefects_linTab : (setDefects t s).linTab = s.linTab := rfl
@[simp] theorem setDefects_contexts : (setDefects t s).contexts = s.contexts := rfl
@[simp] theorem setDefects_activeHead : (setDefects t s).activeHead = s.activeHead := rfl
@[simp] theorem setDefects_clock : (setDefects t s).clock = s.clock := rfl
@[simp] theorem setDefects_runout : (setDefects t s).runout = s.runout := rfl
@[simp] theorem setDefects_engine : (setDefects t s).engine = s.engine := rfl
@[simp] theorem setDefects_defects : (setDefects t s).defects = t := rfl
@[simp] theorem setDefects_steps : (setDefects t s).steps = s.steps := rfl
@[simp] theorem setDefects_plan : (setDefects t s).plan = s.plan := rfl
end

section
variable (c : Clock) (s : State)
@[simp] theorem setClock_pending : (setClock c s).pending = s.pending := rfl
@[simp] theorem setClock_link : (setClock c s).link = s.link := rfl
@[simp] theorem setClock_out : (setClock c s).out = s.out := rfl
@[simp] theorem setClock_alerts : (setClock c s).alerts = s.alerts := rfl
@[simp] theorem setClock_settings : (setClock c s).settings = s.settings := rfl
@[simp] theorem setClock_headRecs : (setClock c s).headRecs = s.headRecs := rfl
@[simp] theorem setClock_linTab : (setClock c s).linTab = s.linTab := rfl
@[simp] theorem setClock_contexts : (setClock c s).contexts = s.contexts := rfl
@[simp] theorem setClock_activeHead : (setClock c s).activeHead = s.activeHead := rfl
@[simp] theorem setClock_clock : (setClock c s).clock = c := rfl
@[simp] theorem setClock_runout : (setClock c s).runout = s.runout := rfl
@[simp] theorem setClock_engine : (setClock c s).engine = s.engine := rfl
@[simp] theorem setClock_defects : (setClock c s).defects = s.defects := rfl
@[simp] theorem setClock_steps : (setClock c s).steps = s.steps := rfl
@[simp] theorem setClock_plan : (setClock c s).plan = s.plan := rfl
end

section
variable (h : Nat) (es : List Int) (s : State)
@[simp] theorem writeEntries_pending : (writeEntries h es s).pending = s.pending := rfl
@[simp] theorem writeEntries_link : (writeEntries h es s).link = s.link := rfl
@[simp] theorem writeEntries_out : (writeEntries h es s).out = s.out := rfl
@[simp] theorem writeEntries_alerts : (writeEntries h es s).alerts = s.alerts := rfl
@[simp] theorem writeEntries_settings : (writeEntries h es s).settings = s.settings := rfl
@[simp] theorem writeEntries_headRecs : (writeEntries h es s).headRecs = s.headRecs := rfl
@[simp] theorem writeEntries_linTab : (writeEntries h es s).linTab = s.linTab := rfl
@[simp] theorem writeEntries_contexts : (writeEntries h es s).contexts = s.contexts := rfl
@[simp] theorem writeEntries_activeHead : (writeEntries h es s).activeHead = s.activeHead := rfl
@[simp] theorem writeEntries_clock : (writeEntries h es s).clock = s.clock := rfl
@[simp] theorem writeEntries_runout : (writeEntries h es s).runout = Table.setAll 0 s.runout (h * Config.wedgeCells) es := rfl
@[simp] theorem writeEntries_engine : (writeEntries h es s).engine = s.engine := rfl
@[simp] theorem writeEntries_defects : (writeEntries h es s).defects = s.defects := rfl
@[simp] theorem writeEntries_steps : (writeEntries h es s).steps = s.steps := rfl
@[simp] theorem writeEntries_plan : (writeEntries h es s).plan = s.plan := rfl
end

section
variable (s : State)
@[simp] theorem unbind_pending : (unbind s).pending = s.pending := rfl
@[simp] theorem unbind_link : (unbind s).link = s.link := rfl
@[simp] theorem unbind_out : (unbind s).out = s.out := rfl
@[simp] theorem unbind_alerts : (unbind s).alerts = s.alerts := rfl
@[simp] theorem unbind_settings : (unbind s).settings = s.settings := rfl
@[simp] theorem unbind_headRecs : (unbind s).headRecs = s.headRecs := rfl
@[simp] theorem unbind_linTab : (unbind s).linTab = s.linTab := rfl
@[simp] theorem unbind_contexts : (unbind s).contexts = s.contexts := rfl
@[simp] theorem unbind_activeHead : (unbind s).activeHead = s.activeHead := rfl
@[simp] theorem unbind_clock : (unbind s).clock = s.clock := rfl
@[simp] theorem unbind_runout : (unbind s).runout = s.runout := rfl
@[simp] theorem unbind_engine : (unbind s).engine = {} := rfl
@[simp] theorem unbind_defects : (unbind s).defects = s.defects := rfl
@[simp] theorem unbind_steps : (unbind s).steps = s.steps := rfl
@[simp] theorem unbind_plan : (unbind s).plan = s.plan := rfl
end

/-! ### Reads through the updates -/

@[simp] theorem headRec_setHeadRec (h k : Nat) (r : HeadRec) (s : State) :
    headRec (setHeadRec h r s) k = if k = h then r else headRec s k := get_set ({} : HeadRec) s.headRecs h k r

@[simp] theorem headContext_setHeadContext (h k : Nat) (c : HeadContext) (s : State) :
    headContext (setHeadContext h c s) k = if k = h then c else headContext s k := get_set ({} : HeadContext) s.contexts h k c

@[simp] theorem readCounter_writeCounter (j k v : Nat) (s : State) :
    readCounter (writeCounter k v s) j = if j = k then v else readCounter s j := get_set 0 s.alerts.counters k j v

theorem readCounter_bumpBy (c : Counter) (n k : Nat) (s : State) :
    readCounter (bumpBy c n s) k = if k = c.index then min (readCounter s c.index + n) 65535 else readCounter s k :=
  readCounter_writeCounter k c.index _ s

theorem readCounter_bump (c : Counter) (k : Nat) (s : State) :
    readCounter (bump c s) k = if k = c.index then min (readCounter s c.index + 1) 65535 else readCounter s k :=
  readCounter_bumpBy c 1 k s

@[simp] theorem bumpBy_flags (c : Counter) (n : Nat) (s : State) : (bumpBy c n s).alerts.flags = s.alerts.flags := rfl
@[simp] theorem bumpBy_mask (c : Counter) (n : Nat) (s : State) : (bumpBy c n s).alerts.mask = s.alerts.mask := rfl
@[simp] theorem bump_flags (c : Counter) (s : State) : (bump c s).alerts.flags = s.alerts.flags := rfl
@[simp] theorem bump_mask (c : Counter) (s : State) : (bump c s).alerts.mask = s.alerts.mask := rfl

@[simp] theorem readCounter_raise (a : Alert) (k : Nat) (s : State) : readCounter (raise a s) k = readCounter s k := rfl

end Sys2Proof.Laws
end

