-- ==== Sys2Proof/Laws/Frames.lean ====
section
/-! SUPPORT. The frame of each shared operation: the parts of the state it never touches. Each lemma is a conjunction of
equations, which `simp` uses one by one. -/

namespace Sys2Proof.Laws

open Sys2Proof.Machine

@[simp] theorem bumpBy_frame (c : Counter) (n : Nat) (s : State) :
    (bumpBy c n s).pending = s.pending ∧ (bumpBy c n s).link = s.link ∧ (bumpBy c n s).out = s.out ∧
      (bumpBy c n s).settings = s.settings ∧ (bumpBy c n s).headRecs = s.headRecs ∧
      (bumpBy c n s).linTab = s.linTab ∧ (bumpBy c n s).contexts = s.contexts ∧
      (bumpBy c n s).activeHead = s.activeHead ∧ (bumpBy c n s).clock = s.clock ∧ (bumpBy c n s).runout = s.runout ∧
      (bumpBy c n s).engine = s.engine ∧ (bumpBy c n s).defects = s.defects ∧ (bumpBy c n s).steps = s.steps ∧
      (bumpBy c n s).plan = s.plan := by simp [bumpBy]

@[simp] theorem bump_frame (c : Counter) (s : State) :
    (bump c s).pending = s.pending ∧ (bump c s).link = s.link ∧ (bump c s).out = s.out ∧
      (bump c s).settings = s.settings ∧ (bump c s).headRecs = s.headRecs ∧ (bump c s).linTab = s.linTab ∧
      (bump c s).contexts = s.contexts ∧ (bump c s).activeHead = s.activeHead ∧ (bump c s).clock = s.clock ∧
      (bump c s).runout = s.runout ∧ (bump c s).engine = s.engine ∧ (bump c s).defects = s.defects ∧
      (bump c s).steps = s.steps ∧ (bump c s).plan = s.plan := by simp [bump]

@[simp] theorem frontLinkError_frame (c : LinkCause) (s : State) :
    (frontLinkError c s).pending = s.pending ∧ (frontLinkError c s).link = s.link ∧
      (frontLinkError c s).out = s.out ∧ (frontLinkError c s).settings = s.settings ∧
      (frontLinkError c s).headRecs = s.headRecs ∧ (frontLinkError c s).linTab = s.linTab ∧
      (frontLinkError c s).contexts = s.contexts ∧ (frontLinkError c s).activeHead = s.activeHead ∧
      (frontLinkError c s).clock = s.clock ∧ (frontLinkError c s).runout = s.runout ∧
      (frontLinkError c s).engine = s.engine ∧ (frontLinkError c s).defects = s.defects ∧
      (frontLinkError c s).steps = s.steps ∧ (frontLinkError c s).plan = s.plan := by simp [frontLinkError]

@[simp] theorem benchLinkError_frame (c : LinkCause) (s : State) :
    (benchLinkError c s).pending = s.pending ∧ (benchLinkError c s).out = s.out ∧
      (benchLinkError c s).settings = s.settings ∧ (benchLinkError c s).headRecs = s.headRecs ∧
      (benchLinkError c s).linTab = s.linTab ∧ (benchLinkError c s).contexts = s.contexts ∧
      (benchLinkError c s).activeHead = s.activeHead ∧ (benchLinkError c s).clock = s.clock ∧
      (benchLinkError c s).runout = s.runout ∧ (benchLinkError c s).engine = s.engine ∧
      (benchLinkError c s).defects = s.defects ∧ (benchLinkError c s).steps = s.steps ∧
      (benchLinkError c s).plan = s.plan := by simp [benchLinkError]

@[simp] theorem offerFifo_frame (f : Frame) (s : State) :
    (offerFifo f s).pending = s.pending ∧ (offerFifo f s).out = s.out ∧ (offerFifo f s).settings = s.settings ∧
      (offerFifo f s).headRecs = s.headRecs ∧ (offerFifo f s).linTab = s.linTab ∧
      (offerFifo f s).contexts = s.contexts ∧ (offerFifo f s).activeHead = s.activeHead ∧
      (offerFifo f s).clock = s.clock ∧ (offerFifo f s).runout = s.runout ∧ (offerFifo f s).engine = s.engine ∧
      (offerFifo f s).defects = s.defects ∧ (offerFifo f s).steps = s.steps ∧ (offerFifo f s).plan = s.plan := by
  unfold offerFifo; split <;> simp

@[simp] theorem frontTransmitEnd_frame (s : State) :
    (frontTransmitEnd s).pending = s.pending ∧ (frontTransmitEnd s).out = s.out ∧
      (frontTransmitEnd s).alerts = s.alerts ∧ (frontTransmitEnd s).settings = s.settings ∧
      (frontTransmitEnd s).headRecs = s.headRecs ∧ (frontTransmitEnd s).linTab = s.linTab ∧
      (frontTransmitEnd s).contexts = s.contexts ∧ (frontTransmitEnd s).activeHead = s.activeHead ∧
      (frontTransmitEnd s).clock = s.clock ∧ (frontTransmitEnd s).runout = s.runout ∧
      (frontTransmitEnd s).engine = s.engine ∧ (frontTransmitEnd s).defects = s.defects ∧
      (frontTransmitEnd s).steps = s.steps ∧ (frontTransmitEnd s).plan = s.plan := by
  unfold frontTransmitEnd; split <;> simp

@[simp] theorem benchTransmitEnd_frame (s : State) :
    (benchTransmitEnd s).pending = s.pending ∧ (benchTransmitEnd s).link = s.link ∧
      (benchTransmitEnd s).alerts = s.alerts ∧ (benchTransmitEnd s).settings = s.settings ∧
      (benchTransmitEnd s).headRecs = s.headRecs ∧ (benchTransmitEnd s).linTab = s.linTab ∧
      (benchTransmitEnd s).contexts = s.contexts ∧ (benchTransmitEnd s).activeHead = s.activeHead ∧
      (benchTransmitEnd s).clock = s.clock ∧ (benchTransmitEnd s).runout = s.runout ∧
      (benchTransmitEnd s).engine = s.engine ∧ (benchTransmitEnd s).defects = s.defects ∧
      (benchTransmitEnd s).steps = s.steps ∧ (benchTransmitEnd s).plan = s.plan := by
  unfold benchTransmitEnd; split <;> simp

@[simp] theorem offerLoop_frame (f : Frame) (s : State) :
    (offerLoop f s).pending = s.pending ∧ (offerLoop f s).link = s.link ∧ (offerLoop f s).settings = s.settings ∧
      (offerLoop f s).headRecs = s.headRecs ∧ (offerLoop f s).linTab = s.linTab ∧
      (offerLoop f s).contexts = s.contexts ∧ (offerLoop f s).activeHead = s.activeHead ∧
      (offerLoop f s).clock = s.clock ∧ (offerLoop f s).runout = s.runout ∧ (offerLoop f s).engine = s.engine ∧
      (offerLoop f s).defects = s.defects ∧ (offerLoop f s).steps = s.steps ∧ (offerLoop f s).plan = s.plan := by
  unfold offerLoop; split <;> simp

@[simp] theorem offerStatus_frame (f : Frame) (s : State) :
    (offerStatus f s).pending = s.pending ∧ (offerStatus f s).link = s.link ∧
      (offerStatus f s).settings = s.settings ∧ (offerStatus f s).headRecs = s.headRecs ∧
      (offerStatus f s).linTab = s.linTab ∧ (offerStatus f s).contexts = s.contexts ∧
      (offerStatus f s).activeHead = s.activeHead ∧ (offerStatus f s).clock = s.clock ∧
      (offerStatus f s).runout = s.runout ∧ (offerStatus f s).engine = s.engine ∧
      (offerStatus f s).defects = s.defects ∧ (offerStatus f s).steps = s.steps ∧ (offerStatus f s).plan = s.plan := by
  unfold offerStatus; split <;> simp

@[simp] theorem offerReport_frame (k : Nat) (r : List Byte) (s : State) :
    (offerReport k r s).pending = s.pending ∧ (offerReport k r s).link = s.link ∧
      (offerReport k r s).settings = s.settings ∧ (offerReport k r s).headRecs = s.headRecs ∧
      (offerReport k r s).linTab = s.linTab ∧ (offerReport k r s).contexts = s.contexts ∧
      (offerReport k r s).activeHead = s.activeHead ∧ (offerReport k r s).clock = s.clock ∧
      (offerReport k r s).runout = s.runout ∧ (offerReport k r s).engine = s.engine ∧
      (offerReport k r s).defects = s.defects ∧ (offerReport k r s).steps = s.steps ∧
      (offerReport k r s).plan = s.plan := by
  unfold offerReport; split <;> simp

@[simp] theorem offerDefectNotice_frame (r : List Byte) (s : State) :
    (offerDefectNotice r s).pending = s.pending ∧ (offerDefectNotice r s).link = s.link ∧
      (offerDefectNotice r s).settings = s.settings ∧ (offerDefectNotice r s).headRecs = s.headRecs ∧
      (offerDefectNotice r s).linTab = s.linTab ∧ (offerDefectNotice r s).contexts = s.contexts ∧
      (offerDefectNotice r s).activeHead = s.activeHead ∧ (offerDefectNotice r s).clock = s.clock ∧
      (offerDefectNotice r s).runout = s.runout ∧ (offerDefectNotice r s).engine = s.engine ∧
      (offerDefectNotice r s).defects = s.defects ∧ (offerDefectNotice r s).steps = s.steps ∧
      (offerDefectNotice r s).plan = s.plan := by
  unfold offerDefectNotice; split <;> simp

@[simp] theorem refreshTimerExpiry_frame (s : State) :
    (refreshTimerExpiry s).pending = s.pending ∧ (refreshTimerExpiry s).link = s.link ∧
      (refreshTimerExpiry s).alerts = s.alerts ∧ (refreshTimerExpiry s).settings = s.settings ∧
      (refreshTimerExpiry s).headRecs = s.headRecs ∧ (refreshTimerExpiry s).linTab = s.linTab ∧
      (refreshTimerExpiry s).contexts = s.contexts ∧ (refreshTimerExpiry s).activeHead = s.activeHead ∧
      (refreshTimerExpiry s).clock = s.clock ∧ (refreshTimerExpiry s).runout = s.runout ∧
      (refreshTimerExpiry s).engine = s.engine ∧ (refreshTimerExpiry s).defects = s.defects ∧
      (refreshTimerExpiry s).steps = s.steps ∧ (refreshTimerExpiry s).plan = s.plan := by
  unfold refreshTimerExpiry; split <;> simp

@[simp] theorem writeMeasuredOffset_frame (h : Nat) (v : Int) (s : State) :
    (writeMeasuredOffset h v s).pending = s.pending ∧ (writeMeasuredOffset h v s).link = s.link ∧
      (writeMeasuredOffset h v s).out = s.out ∧ (writeMeasuredOffset h v s).alerts = s.alerts ∧
      (writeMeasuredOffset h v s).settings = s.settings ∧ (writeMeasuredOffset h v s).linTab = s.linTab ∧
      (writeMeasuredOffset h v s).contexts = s.contexts ∧ (writeMeasuredOffset h v s).activeHead = s.activeHead ∧
      (writeMeasuredOffset h v s).clock = s.clock ∧ (writeMeasuredOffset h v s).runout = s.runout ∧
      (writeMeasuredOffset h v s).engine = s.engine ∧ (writeMeasuredOffset h v s).defects = s.defects ∧
      (writeMeasuredOffset h v s).steps = s.steps ∧ (writeMeasuredOffset h v s).plan = s.plan := by
  unfold writeMeasuredOffset; split <;> simp

@[simp] theorem foldOffset_frame (h : Nat) (d : Int) (s : State) :
    (foldOffset h d s).pending = s.pending ∧ (foldOffset h d s).link = s.link ∧ (foldOffset h d s).out = s.out ∧
      (foldOffset h d s).alerts = s.alerts ∧ (foldOffset h d s).settings = s.settings ∧
      (foldOffset h d s).linTab = s.linTab ∧ (foldOffset h d s).contexts = s.contexts ∧
      (foldOffset h d s).activeHead = s.activeHead ∧ (foldOffset h d s).clock = s.clock ∧
      (foldOffset h d s).runout = s.runout ∧ (foldOffset h d s).engine = s.engine ∧
      (foldOffset h d s).defects = s.defects ∧ (foldOffset h d s).steps = s.steps ∧
      (foldOffset h d s).plan = s.plan := by
  unfold foldOffset; split <;> simp

@[simp] theorem discardAccumulation_frame (s : State) :
    (discardAccumulation s).pending = s.pending ∧ (discardAccumulation s).link = s.link ∧
      (discardAccumulation s).out = s.out ∧ (discardAccumulation s).settings = s.settings ∧
      (discardAccumulation s).headRecs = s.headRecs ∧ (discardAccumulation s).linTab = s.linTab ∧
      (discardAccumulation s).contexts = s.contexts ∧ (discardAccumulation s).activeHead = s.activeHead ∧
      (discardAccumulation s).clock = s.clock ∧ (discardAccumulation s).runout = s.runout ∧
      (discardAccumulation s).defects = s.defects ∧ (discardAccumulation s).steps = s.steps ∧
      (discardAccumulation s).plan = s.plan := by
  unfold discardAccumulation; split <;> simp

@[simp] theorem beginPass_frame (h n : Nat) (s : State) :
    (beginPass h n s).pending = s.pending ∧ (beginPass h n s).link = s.link ∧ (beginPass h n s).out = s.out ∧
      (beginPass h n s).alerts = s.alerts ∧ (beginPass h n s).settings = s.settings ∧
      (beginPass h n s).headRecs = s.headRecs ∧ (beginPass h n s).linTab = s.linTab ∧
      (beginPass h n s).contexts = s.contexts ∧ (beginPass h n s).activeHead = s.activeHead ∧
      (beginPass h n s).clock = s.clock ∧ (beginPass h n s).runout = s.runout ∧
      (beginPass h n s).defects = s.defects ∧ (beginPass h n s).steps = s.steps ∧ (beginPass h n s).plan = s.plan := by simp [beginPass]

@[simp] theorem countPassRevolution_frame (s : State) :
    (countPassRevolution s).pending = s.pending ∧ (countPassRevolution s).link = s.link ∧
      (countPassRevolution s).out = s.out ∧ (countPassRevolution s).alerts = s.alerts ∧
      (countPassRevolution s).settings = s.settings ∧ (countPassRevolution s).headRecs = s.headRecs ∧
      (countPassRevolution s).linTab = s.linTab ∧ (countPassRevolution s).contexts = s.contexts ∧
      (countPassRevolution s).activeHead = s.activeHead ∧ (countPassRevolution s).clock = s.clock ∧
      (countPassRevolution s).runout = s.runout ∧ (countPassRevolution s).defects = s.defects ∧
      (countPassRevolution s).steps = s.steps ∧ (countPassRevolution s).plan = s.plan := by
  unfold countPassRevolution; split <;> (try dsimp only) <;> (try split_ifs) <;> simp

@[simp] theorem addSample_frame (w : Nat) (x : Int) (s : State) :
    (addSample w x s).pending = s.pending ∧ (addSample w x s).link = s.link ∧ (addSample w x s).out = s.out ∧
      (addSample w x s).alerts = s.alerts ∧ (addSample w x s).settings = s.settings ∧
      (addSample w x s).headRecs = s.headRecs ∧ (addSample w x s).linTab = s.linTab ∧
      (addSample w x s).contexts = s.contexts ∧ (addSample w x s).activeHead = s.activeHead ∧
      (addSample w x s).clock = s.clock ∧ (addSample w x s).runout = s.runout ∧
      (addSample w x s).defects = s.defects ∧ (addSample w x s).steps = s.steps ∧ (addSample w x s).plan = s.plan := by simp [addSample]

@[simp] theorem tallyApply_frame (v : PendingSolve) (s : State) :
    (tallyApply v s).pending = s.pending ∧ (tallyApply v s).link = s.link ∧ (tallyApply v s).out = s.out ∧
      (tallyApply v s).alerts = s.alerts ∧ (tallyApply v s).settings = s.settings ∧
      (tallyApply v s).headRecs = s.headRecs ∧ (tallyApply v s).linTab = s.linTab ∧
      (tallyApply v s).contexts = s.contexts ∧ (tallyApply v s).activeHead = s.activeHead ∧
      (tallyApply v s).clock = s.clock ∧ (tallyApply v s).runout = s.runout ∧ (tallyApply v s).engine = s.engine ∧
      (tallyApply v s).defects = s.defects ∧ (tallyApply v s).steps = s.steps := by simp [tallyApply]

@[simp] theorem applySolve_frame (s : State) :
    (applySolve s).1.pending = s.pending ∧ (applySolve s).1.link = s.link ∧ (applySolve s).1.settings = s.settings ∧
      (applySolve s).1.linTab = s.linTab ∧ (applySolve s).1.contexts = s.contexts ∧
      (applySolve s).1.activeHead = s.activeHead ∧ (applySolve s).1.clock = s.clock ∧
      (applySolve s).1.defects = s.defects ∧ (applySolve s).1.steps = s.steps := by
  unfold applySolve; split <;> (try split_ifs) <;> simp

@[simp] theorem applyStage_frame (h : Nat) (i : Bool) (s : State) :
    (applyStage h i s).1.pending = s.pending ∧ (applyStage h i s).1.link = s.link ∧
      (applyStage h i s).1.settings = s.settings ∧ (applyStage h i s).1.linTab = s.linTab ∧
      (applyStage h i s).1.contexts = s.contexts ∧ (applyStage h i s).1.activeHead = s.activeHead ∧
      (applyStage h i s).1.clock = s.clock ∧ (applyStage h i s).1.defects = s.defects ∧
      (applyStage h i s).1.steps = s.steps := by
  unfold applyStage; split <;> simp

@[simp] theorem engineStage_frame (h : Nat) (e f : Bool) (s : State) :
    (engineStage h e f s).pending = s.pending ∧ (engineStage h e f s).link = s.link ∧
      (engineStage h e f s).out = s.out ∧ (engineStage h e f s).alerts = s.alerts ∧
      (engineStage h e f s).settings = s.settings ∧ (engineStage h e f s).headRecs = s.headRecs ∧
      (engineStage h e f s).linTab = s.linTab ∧ (engineStage h e f s).contexts = s.contexts ∧
      (engineStage h e f s).activeHead = s.activeHead ∧ (engineStage h e f s).clock = s.clock ∧
      (engineStage h e f s).runout = s.runout ∧ (engineStage h e f s).defects = s.defects ∧
      (engineStage h e f s).steps = s.steps ∧ (engineStage h e f s).plan = s.plan := by
  unfold engineStage; repeat' split
  all_goals simp

@[simp] theorem enterStep_frame (n : Nat) (s : State) :
    (enterStep n s).pending = s.pending ∧ (enterStep n s).link = s.link ∧ (enterStep n s).out = s.out ∧
      (enterStep n s).alerts = s.alerts ∧ (enterStep n s).settings = s.settings ∧
      (enterStep n s).headRecs = s.headRecs ∧ (enterStep n s).linTab = s.linTab ∧
      (enterStep n s).contexts = s.contexts ∧ (enterStep n s).activeHead = s.activeHead ∧
      (enterStep n s).clock = s.clock ∧ (enterStep n s).runout = s.runout ∧ (enterStep n s).engine = s.engine ∧
      (enterStep n s).defects = s.defects ∧ (enterStep n s).steps = s.steps := by simp [enterStep]

@[simp] theorem returnToWaiting_frame (s : State) :
    (returnToWaiting s).pending = s.pending ∧ (returnToWaiting s).link = s.link ∧ (returnToWaiting s).out = s.out ∧
      (returnToWaiting s).alerts = s.alerts ∧ (returnToWaiting s).settings = s.settings ∧
      (returnToWaiting s).headRecs = s.headRecs ∧ (returnToWaiting s).linTab = s.linTab ∧
      (returnToWaiting s).contexts = s.contexts ∧ (returnToWaiting s).activeHead = s.activeHead ∧
      (returnToWaiting s).clock = s.clock ∧ (returnToWaiting s).runout = s.runout ∧
      (returnToWaiting s).engine = s.engine ∧ (returnToWaiting s).defects = s.defects ∧
      (returnToWaiting s).steps = s.steps := by
  unfold returnToWaiting; split <;> simp

@[simp] theorem tryActivate_frame (h : Nat) (s : State) :
    (tryActivate h s).pending = s.pending ∧ (tryActivate h s).link = s.link ∧ (tryActivate h s).out = s.out ∧
      (tryActivate h s).alerts = s.alerts ∧ (tryActivate h s).settings = s.settings ∧
      (tryActivate h s).headRecs = s.headRecs ∧ (tryActivate h s).linTab = s.linTab ∧
      (tryActivate h s).contexts = s.contexts ∧ (tryActivate h s).activeHead = s.activeHead ∧
      (tryActivate h s).clock = s.clock ∧ (tryActivate h s).runout = s.runout ∧ (tryActivate h s).engine = s.engine ∧
      (tryActivate h s).defects = s.defects ∧ (tryActivate h s).steps = s.steps := by
  unfold tryActivate; split <;> simp

@[simp] theorem endPlan_frame (r : PlanReason) (s : State) :
    (endPlan r s).pending = s.pending ∧ (endPlan r s).link = s.link ∧ (endPlan r s).settings = s.settings ∧
      (endPlan r s).headRecs = s.headRecs ∧ (endPlan r s).linTab = s.linTab ∧ (endPlan r s).contexts = s.contexts ∧
      (endPlan r s).activeHead = s.activeHead ∧ (endPlan r s).clock = s.clock ∧ (endPlan r s).runout = s.runout ∧
      (endPlan r s).engine = s.engine ∧ (endPlan r s).defects = s.defects ∧ (endPlan r s).steps = s.steps := by simp [endPlan]

@[simp] theorem advance_frame (n : Nat) (x : StepOutcome) (s : State) :
    (advance n x s).pending = s.pending ∧ (advance n x s).link = s.link ∧ (advance n x s).settings = s.settings ∧
      (advance n x s).headRecs = s.headRecs ∧ (advance n x s).linTab = s.linTab ∧
      (advance n x s).contexts = s.contexts ∧ (advance n x s).activeHead = s.activeHead ∧
      (advance n x s).clock = s.clock ∧ (advance n x s).runout = s.runout ∧ (advance n x s).engine = s.engine ∧
      (advance n x s).defects = s.defects ∧ (advance n x s).steps = s.steps := by unfold advance; split_ifs <;> simp

@[simp] theorem tallyStep_frame (n : Nat) (x : StepOutcome) (s : State) :
    (tallyStep n x s).pending = s.pending ∧ (tallyStep n x s).link = s.link ∧ (tallyStep n x s).out = s.out ∧
      (tallyStep n x s).alerts = s.alerts ∧ (tallyStep n x s).settings = s.settings ∧
      (tallyStep n x s).headRecs = s.headRecs ∧ (tallyStep n x s).linTab = s.linTab ∧
      (tallyStep n x s).contexts = s.contexts ∧ (tallyStep n x s).activeHead = s.activeHead ∧
      (tallyStep n x s).clock = s.clock ∧ (tallyStep n x s).runout = s.runout ∧ (tallyStep n x s).engine = s.engine ∧
      (tallyStep n x s).defects = s.defects ∧ (tallyStep n x s).steps = s.steps := by simp [tallyStep]

@[simp] theorem unbindStep_frame (n : Nat) (s : State) :
    (unbindStep n s).pending = s.pending ∧ (unbindStep n s).link = s.link ∧ (unbindStep n s).out = s.out ∧
      (unbindStep n s).alerts = s.alerts ∧ (unbindStep n s).settings = s.settings ∧
      (unbindStep n s).headRecs = s.headRecs ∧ (unbindStep n s).linTab = s.linTab ∧
      (unbindStep n s).contexts = s.contexts ∧ (unbindStep n s).activeHead = s.activeHead ∧
      (unbindStep n s).clock = s.clock ∧ (unbindStep n s).runout = s.runout ∧ (unbindStep n s).defects = s.defects ∧
      (unbindStep n s).steps = s.steps ∧ (unbindStep n s).plan = s.plan := by
  unfold unbindStep; split <;> (try split_ifs) <;> simp

@[simp] theorem endStep_frame (n : Nat) (x : StepOutcome) (s : State) :
    (endStep n x s).pending = s.pending ∧ (endStep n x s).link = s.link ∧ (endStep n x s).settings = s.settings ∧
      (endStep n x s).headRecs = s.headRecs ∧ (endStep n x s).linTab = s.linTab ∧
      (endStep n x s).contexts = s.contexts ∧ (endStep n x s).activeHead = s.activeHead ∧
      (endStep n x s).clock = s.clock ∧ (endStep n x s).runout = s.runout ∧ (endStep n x s).defects = s.defects ∧
      (endStep n x s).steps = s.steps := by
  unfold endStep; split <;> simp

@[simp] theorem closeSettle_frame (n : Nat) (p : PlanStep) (s : State) :
    (closeSettle n p s).pending = s.pending ∧ (closeSettle n p s).link = s.link ∧
      (closeSettle n p s).settings = s.settings ∧ (closeSettle n p s).headRecs = s.headRecs ∧
      (closeSettle n p s).linTab = s.linTab ∧ (closeSettle n p s).contexts = s.contexts ∧
      (closeSettle n p s).activeHead = s.activeHead ∧ (closeSettle n p s).clock = s.clock ∧
      (closeSettle n p s).runout = s.runout ∧ (closeSettle n p s).defects = s.defects ∧
      (closeSettle n p s).steps = s.steps := by
  unfold closeSettle; dsimp only; split_ifs <;> simp

@[simp] theorem closeOffset_frame (n : Nat) (p : PlanStep) (s : State) :
    (closeOffset n p s).pending = s.pending ∧ (closeOffset n p s).link = s.link ∧
      (closeOffset n p s).settings = s.settings ∧ (closeOffset n p s).linTab = s.linTab ∧
      (closeOffset n p s).contexts = s.contexts ∧ (closeOffset n p s).activeHead = s.activeHead ∧
      (closeOffset n p s).clock = s.clock ∧ (closeOffset n p s).runout = s.runout ∧
      (closeOffset n p s).defects = s.defects ∧ (closeOffset n p s).steps = s.steps := by
  unfold closeOffset; dsimp only; split_ifs <;> simp

@[simp] theorem closeVerify_frame (n : Nat) (p : PlanStep) (s : State) :
    (closeVerify n p s).pending = s.pending ∧ (closeVerify n p s).link = s.link ∧
      (closeVerify n p s).settings = s.settings ∧ (closeVerify n p s).headRecs = s.headRecs ∧
      (closeVerify n p s).linTab = s.linTab ∧ (closeVerify n p s).contexts = s.contexts ∧
      (closeVerify n p s).activeHead = s.activeHead ∧ (closeVerify n p s).clock = s.clock ∧
      (closeVerify n p s).runout = s.runout ∧ (closeVerify n p s).defects = s.defects ∧
      (closeVerify n p s).steps = s.steps := by
  unfold closeVerify; dsimp only; split <;> simp

@[simp] theorem closeRevolution_frame (h : Nat) (s : State) :
    (closeRevolution h s).pending = s.pending ∧ (closeRevolution h s).link = s.link ∧
      (closeRevolution h s).settings = s.settings ∧ (closeRevolution h s).linTab = s.linTab ∧
      (closeRevolution h s).contexts = s.contexts ∧ (closeRevolution h s).activeHead = s.activeHead ∧
      (closeRevolution h s).clock = s.clock ∧ (closeRevolution h s).runout = s.runout ∧
      (closeRevolution h s).defects = s.defects ∧ (closeRevolution h s).steps = s.steps := by
  unfold closeRevolution; dsimp only; repeat' split
  all_goals simp

@[simp] theorem endLearn_frame (a : Option AfterApply) (s : State) :
    (endLearn a s).pending = s.pending ∧ (endLearn a s).link = s.link ∧ (endLearn a s).settings = s.settings ∧
      (endLearn a s).headRecs = s.headRecs ∧ (endLearn a s).linTab = s.linTab ∧
      (endLearn a s).contexts = s.contexts ∧ (endLearn a s).activeHead = s.activeHead ∧
      (endLearn a s).clock = s.clock ∧ (endLearn a s).runout = s.runout ∧ (endLearn a s).defects = s.defects ∧
      (endLearn a s).steps = s.steps := by
  unfold endLearn; split <;> simp

@[simp] theorem planStage_frame (h : Nat) (e : Bool) (a : Option AfterApply) (s : State) :
    (planStage h e a s).pending = s.pending ∧ (planStage h e a s).link = s.link ∧
      (planStage h e a s).settings = s.settings ∧ (planStage h e a s).linTab = s.linTab ∧
      (planStage h e a s).contexts = s.contexts ∧ (planStage h e a s).activeHead = s.activeHead ∧
      (planStage h e a s).clock = s.clock ∧ (planStage h e a s).runout = s.runout ∧
      (planStage h e a s).defects = s.defects ∧ (planStage h e a s).steps = s.steps := by
  unfold planStage; dsimp only; split_ifs <;> simp

@[simp] theorem contribute_frame (c : Contribution) (s : State) :
    (contribute c s).pending = s.pending ∧ (contribute c s).link = s.link ∧ (contribute c s).out = s.out ∧
      (contribute c s).alerts = s.alerts ∧ (contribute c s).settings = s.settings ∧
      (contribute c s).headRecs = s.headRecs ∧ (contribute c s).linTab = s.linTab ∧
      (contribute c s).contexts = s.contexts ∧ (contribute c s).activeHead = s.activeHead ∧
      (contribute c s).clock = s.clock ∧ (contribute c s).runout = s.runout ∧ (contribute c s).engine = s.engine ∧
      (contribute c s).defects = s.defects ∧ (contribute c s).steps = s.steps := by
  unfold contribute; dsimp only; repeat' split
  all_goals simp

@[simp] theorem settleWatch_frame (h : Nat) (a b : Bool) (s : State) :
    (settleWatch h a b s).pending = s.pending ∧ (settleWatch h a b s).link = s.link ∧
      (settleWatch h a b s).out = s.out ∧ (settleWatch h a b s).alerts = s.alerts ∧
      (settleWatch h a b s).settings = s.settings ∧ (settleWatch h a b s).headRecs = s.headRecs ∧
      (settleWatch h a b s).linTab = s.linTab ∧ (settleWatch h a b s).contexts = s.contexts ∧
      (settleWatch h a b s).activeHead = s.activeHead ∧ (settleWatch h a b s).clock = s.clock ∧
      (settleWatch h a b s).runout = s.runout ∧ (settleWatch h a b s).engine = s.engine ∧
      (settleWatch h a b s).defects = s.defects ∧ (settleWatch h a b s).steps = s.steps := by
  unfold settleWatch; split <;> (try split_ifs) <;> simp

@[simp] theorem startPlan_frame (s : State) :
    (startPlan s).pending = s.pending ∧ (startPlan s).link = s.link ∧ (startPlan s).settings = s.settings ∧
      (startPlan s).headRecs = s.headRecs ∧ (startPlan s).linTab = s.linTab ∧ (startPlan s).contexts = s.contexts ∧
      (startPlan s).activeHead = s.activeHead ∧ (startPlan s).clock = s.clock ∧ (startPlan s).runout = s.runout ∧
      (startPlan s).engine = s.engine ∧ (startPlan s).defects = s.defects ∧ (startPlan s).steps = s.steps := by
  unfold startPlan; split <;> simp

@[simp] theorem stopPlan_frame (s : State) :
    (stopPlan s).pending = s.pending ∧ (stopPlan s).link = s.link ∧ (stopPlan s).settings = s.settings ∧
      (stopPlan s).headRecs = s.headRecs ∧ (stopPlan s).linTab = s.linTab ∧ (stopPlan s).contexts = s.contexts ∧
      (stopPlan s).activeHead = s.activeHead ∧ (stopPlan s).clock = s.clock ∧ (stopPlan s).runout = s.runout ∧
      (stopPlan s).defects = s.defects ∧ (stopPlan s).steps = s.steps := by
  unfold stopPlan; split <;> simp

@[simp] theorem waitTimerExpiry_frame (s : State) :
    (waitTimerExpiry s).pending = s.pending ∧ (waitTimerExpiry s).link = s.link ∧
      (waitTimerExpiry s).settings = s.settings ∧ (waitTimerExpiry s).headRecs = s.headRecs ∧
      (waitTimerExpiry s).linTab = s.linTab ∧ (waitTimerExpiry s).contexts = s.contexts ∧
      (waitTimerExpiry s).activeHead = s.activeHead ∧ (waitTimerExpiry s).clock = s.clock ∧
      (waitTimerExpiry s).runout = s.runout ∧ (waitTimerExpiry s).defects = s.defects ∧
      (waitTimerExpiry s).steps = s.steps := by
  unfold waitTimerExpiry; split <;> simp

@[simp] theorem headNotice_frame (h : Nat) (s : State) :
    (headNotice h s).pending = s.pending ∧ (headNotice h s).link = s.link ∧ (headNotice h s).out = s.out ∧
      (headNotice h s).settings = s.settings ∧ (headNotice h s).headRecs = s.headRecs ∧
      (headNotice h s).linTab = s.linTab ∧ (headNotice h s).contexts = s.contexts ∧
      (headNotice h s).activeHead = s.activeHead ∧ (headNotice h s).clock = s.clock ∧
      (headNotice h s).runout = s.runout ∧ (headNotice h s).defects = s.defects ∧ (headNotice h s).steps = s.steps := by
  unfold headNotice; dsimp only; split_ifs <;> simp

@[simp] theorem headSwitch_frame (h : Nat) (s : State) :
    (headSwitch h s).pending = s.pending ∧ (headSwitch h s).link = s.link ∧ (headSwitch h s).out = s.out ∧
      (headSwitch h s).settings = s.settings ∧ (headSwitch h s).headRecs = s.headRecs ∧
      (headSwitch h s).linTab = s.linTab ∧ (headSwitch h s).clock = s.clock ∧ (headSwitch h s).runout = s.runout ∧
      (headSwitch h s).defects = s.defects ∧ (headSwitch h s).steps = s.steps := by
  unfold headSwitch; repeat' split
  all_goals simp

@[simp] theorem countSettle_frame (h : Nat) (s : State) :
    (countSettle h s).pending = s.pending ∧ (countSettle h s).link = s.link ∧ (countSettle h s).out = s.out ∧
      (countSettle h s).alerts = s.alerts ∧ (countSettle h s).settings = s.settings ∧
      (countSettle h s).headRecs = s.headRecs ∧ (countSettle h s).linTab = s.linTab ∧
      (countSettle h s).activeHead = s.activeHead ∧ (countSettle h s).clock = s.clock ∧
      (countSettle h s).runout = s.runout ∧ (countSettle h s).engine = s.engine ∧
      (countSettle h s).defects = s.defects ∧ (countSettle h s).steps = s.steps ∧ (countSettle h s).plan = s.plan := by simp [countSettle]

@[simp] theorem passTargetChange_frame (h : Nat) (s : State) :
    (passTargetChange h s).pending = s.pending ∧ (passTargetChange h s).link = s.link ∧ (passTargetChange h s).out = s.out ∧
      (passTargetChange h s).alerts = s.alerts ∧ (passTargetChange h s).settings = s.settings ∧
      (passTargetChange h s).headRecs = s.headRecs ∧ (passTargetChange h s).linTab = s.linTab ∧
      (passTargetChange h s).activeHead = s.activeHead ∧ (passTargetChange h s).clock = s.clock ∧
      (passTargetChange h s).runout = s.runout ∧ (passTargetChange h s).engine = s.engine ∧
      (passTargetChange h s).defects = s.defects ∧ (passTargetChange h s).steps = s.steps ∧
      (passTargetChange h s).plan = s.plan := by simp [passTargetChange]

@[simp] theorem contextStage_frame (h : Nat) (s : State) :
    (contextStage h s).1.pending = s.pending ∧ (contextStage h s).1.link = s.link ∧
      (contextStage h s).1.out = s.out ∧ (contextStage h s).1.settings = s.settings ∧
      (contextStage h s).1.headRecs = s.headRecs ∧ (contextStage h s).1.linTab = s.linTab ∧
      (contextStage h s).1.clock = s.clock ∧ (contextStage h s).1.runout = s.runout ∧
      (contextStage h s).1.defects = s.defects ∧ (contextStage h s).1.steps = s.steps := by simp [contextStage]

@[simp] theorem readHoldFrame_frame (f : HoldRead) (s : State) :
    (readHoldFrame f s).pending = s.pending ∧ (readHoldFrame f s).link = s.link ∧ (readHoldFrame f s).out = s.out ∧
      (readHoldFrame f s).settings = s.settings ∧ (readHoldFrame f s).headRecs = s.headRecs ∧
      (readHoldFrame f s).linTab = s.linTab ∧ (readHoldFrame f s).activeHead = s.activeHead ∧
      (readHoldFrame f s).clock = s.clock ∧ (readHoldFrame f s).runout = s.runout ∧
      (readHoldFrame f s).defects = s.defects ∧ (readHoldFrame f s).steps = s.steps := by
  unfold readHoldFrame; dsimp only; split_ifs <;> simp

@[simp] theorem takeHold_frame (f : HoldRead) (b : Frame) (s : State) :
    (takeHold f b s).pending = s.pending ∧ (takeHold f b s).out = s.out ∧ (takeHold f b s).settings = s.settings ∧
      (takeHold f b s).headRecs = s.headRecs ∧ (takeHold f b s).linTab = s.linTab ∧
      (takeHold f b s).activeHead = s.activeHead ∧ (takeHold f b s).clock = s.clock ∧
      (takeHold f b s).runout = s.runout ∧ (takeHold f b s).defects = s.defects ∧ (takeHold f b s).steps = s.steps := by simp [takeHold]

@[simp] theorem hitExisting_frame (k : Nat) (e : DefectEntry) (s : State) :
    (hitExisting k e s).pending = s.pending ∧ (hitExisting k e s).link = s.link ∧
      (hitExisting k e s).settings = s.settings ∧ (hitExisting k e s).headRecs = s.headRecs ∧
      (hitExisting k e s).linTab = s.linTab ∧ (hitExisting k e s).contexts = s.contexts ∧
      (hitExisting k e s).activeHead = s.activeHead ∧ (hitExisting k e s).clock = s.clock ∧
      (hitExisting k e s).runout = s.runout ∧ (hitExisting k e s).engine = s.engine ∧
      (hitExisting k e s).steps = s.steps ∧ (hitExisting k e s).plan = s.plan := by
  unfold hitExisting; dsimp only; split <;> simp

@[simp] theorem createByHit_frame (k h w : Nat) (s : State) :
    (createByHit k h w s).pending = s.pending ∧ (createByHit k h w s).link = s.link ∧
      (createByHit k h w s).settings = s.settings ∧ (createByHit k h w s).headRecs = s.headRecs ∧
      (createByHit k h w s).linTab = s.linTab ∧ (createByHit k h w s).contexts = s.contexts ∧
      (createByHit k h w s).activeHead = s.activeHead ∧ (createByHit k h w s).clock = s.clock ∧
      (createByHit k h w s).runout = s.runout ∧ (createByHit k h w s).engine = s.engine ∧
      (createByHit k h w s).steps = s.steps ∧ (createByHit k h w s).plan = s.plan := by
  unfold createByHit; split <;> simp

@[simp] theorem evict_frame (v : Nat × DefectEntry) (s : State) :
    (evict v s).pending = s.pending ∧ (evict v s).link = s.link ∧ (evict v s).settings = s.settings ∧
      (evict v s).headRecs = s.headRecs ∧ (evict v s).linTab = s.linTab ∧ (evict v s).contexts = s.contexts ∧
      (evict v s).activeHead = s.activeHead ∧ (evict v s).clock = s.clock ∧ (evict v s).runout = s.runout ∧
      (evict v s).engine = s.engine ∧ (evict v s).steps = s.steps ∧ (evict v s).plan = s.plan := by simp [evict]

@[simp] theorem recordHit_frame (h w : Nat) (s : State) :
    (recordHit h w s).pending = s.pending ∧ (recordHit h w s).link = s.link ∧
      (recordHit h w s).settings = s.settings ∧ (recordHit h w s).headRecs = s.headRecs ∧
      (recordHit h w s).linTab = s.linTab ∧ (recordHit h w s).contexts = s.contexts ∧
      (recordHit h w s).activeHead = s.activeHead ∧ (recordHit h w s).clock = s.clock ∧
      (recordHit h w s).runout = s.runout ∧ (recordHit h w s).engine = s.engine ∧ (recordHit h w s).steps = s.steps ∧
      (recordHit h w s).plan = s.plan := by
  unfold recordHit; repeat' split
  all_goals simp

theorem foldl_notice_frame (l : Table DefectEntry) : ∀ s : State,
    let t := l.foldl (fun s c => offerDefectNotice (defectNotice .aged c.1 c.2) s) s
    t.pending = s.pending ∧ t.link = s.link ∧ t.settings = s.settings ∧ t.headRecs = s.headRecs ∧ t.linTab = s.linTab ∧
      t.contexts = s.contexts ∧ t.activeHead = s.activeHead ∧ t.clock = s.clock ∧ t.runout = s.runout ∧
      t.engine = s.engine ∧ t.defects = s.defects ∧ t.steps = s.steps ∧ t.plan = s.plan := by
  induction l with
  | nil => intro s; simp
  | cons c l ih => intro s; simpa using ih (offerDefectNotice (defectNotice .aged c.1 c.2) s)

@[simp] theorem ageDefects_frame (h : Nat) (s : State) :
    (ageDefects h s).pending = s.pending ∧ (ageDefects h s).link = s.link ∧ (ageDefects h s).settings = s.settings ∧
      (ageDefects h s).headRecs = s.headRecs ∧ (ageDefects h s).linTab = s.linTab ∧
      (ageDefects h s).contexts = s.contexts ∧ (ageDefects h s).activeHead = s.activeHead ∧
      (ageDefects h s).clock = s.clock ∧ (ageDefects h s).runout = s.runout ∧ (ageDefects h s).engine = s.engine ∧
      (ageDefects h s).steps = s.steps ∧ (ageDefects h s).plan = s.plan := by
  unfold ageDefects
  have h := foldl_notice_frame (agedOut h s.settings.ageLimit s.defects)
  simp [h]

@[simp] theorem placeStatic_frame (k h w : Nat) (s : State) :
    (placeStatic k h w s).pending = s.pending ∧ (placeStatic k h w s).link = s.link ∧
      (placeStatic k h w s).out = s.out ∧ (placeStatic k h w s).alerts = s.alerts ∧
      (placeStatic k h w s).settings = s.settings ∧ (placeStatic k h w s).headRecs = s.headRecs ∧
      (placeStatic k h w s).linTab = s.linTab ∧ (placeStatic k h w s).contexts = s.contexts ∧
      (placeStatic k h w s).activeHead = s.activeHead ∧ (placeStatic k h w s).clock = s.clock ∧
      (placeStatic k h w s).runout = s.runout ∧ (placeStatic k h w s).engine = s.engine ∧
      (placeStatic k h w s).steps = s.steps ∧ (placeStatic k h w s).plan = s.plan := by simp [placeStatic]

@[simp] theorem addDefect_frame (h w : Nat) (s : State) :
    (addDefect h w s).1.pending = s.pending ∧ (addDefect h w s).1.link = s.link ∧
      (addDefect h w s).1.settings = s.settings ∧ (addDefect h w s).1.headRecs = s.headRecs ∧
      (addDefect h w s).1.linTab = s.linTab ∧ (addDefect h w s).1.contexts = s.contexts ∧
      (addDefect h w s).1.activeHead = s.activeHead ∧ (addDefect h w s).1.clock = s.clock ∧
      (addDefect h w s).1.runout = s.runout ∧ (addDefect h w s).1.engine = s.engine ∧
      (addDefect h w s).1.steps = s.steps ∧ (addDefect h w s).1.plan = s.plan := by
  unfold addDefect; repeat' split
  all_goals simp

@[simp] theorem removeDefect_frame (h w : Nat) (s : State) :
    (removeDefect h w s).pending = s.pending ∧ (removeDefect h w s).link = s.link ∧
      (removeDefect h w s).out = s.out ∧ (removeDefect h w s).alerts = s.alerts ∧
      (removeDefect h w s).settings = s.settings ∧ (removeDefect h w s).headRecs = s.headRecs ∧
      (removeDefect h w s).linTab = s.linTab ∧ (removeDefect h w s).contexts = s.contexts ∧
      (removeDefect h w s).activeHead = s.activeHead ∧ (removeDefect h w s).clock = s.clock ∧
      (removeDefect h w s).runout = s.runout ∧ (removeDefect h w s).engine = s.engine ∧
      (removeDefect h w s).steps = s.steps ∧ (removeDefect h w s).plan = s.plan := by simp [removeDefect]

@[simp] theorem flushDefects_frame (a b : Int) (s : State) :
    (flushDefects a b s).pending = s.pending ∧ (flushDefects a b s).link = s.link ∧
      (flushDefects a b s).out = s.out ∧ (flushDefects a b s).alerts = s.alerts ∧
      (flushDefects a b s).settings = s.settings ∧ (flushDefects a b s).headRecs = s.headRecs ∧
      (flushDefects a b s).linTab = s.linTab ∧ (flushDefects a b s).contexts = s.contexts ∧
      (flushDefects a b s).activeHead = s.activeHead ∧ (flushDefects a b s).clock = s.clock ∧
      (flushDefects a b s).runout = s.runout ∧ (flushDefects a b s).engine = s.engine ∧
      (flushDefects a b s).steps = s.steps ∧ (flushDefects a b s).plan = s.plan := by simp [flushDefects]

@[simp] theorem clockLossNotice_frame (s : State) :
    (clockLossNotice s).pending = s.pending ∧ (clockLossNotice s).link = s.link ∧ (clockLossNotice s).out = s.out ∧
      (clockLossNotice s).settings = s.settings ∧ (clockLossNotice s).headRecs = s.headRecs ∧
      (clockLossNotice s).linTab = s.linTab ∧ (clockLossNotice s).contexts = s.contexts ∧
      (clockLossNotice s).activeHead = s.activeHead ∧ (clockLossNotice s).clock = s.clock ∧
      (clockLossNotice s).runout = s.runout ∧ (clockLossNotice s).defects = s.defects ∧
      (clockLossNotice s).steps = s.steps := by simp [clockLossNotice]

@[simp] theorem departure_frame (s : State) :
    (departure s).pending = s.pending ∧ (departure s).link = s.link ∧ (departure s).settings = s.settings ∧
      (departure s).headRecs = s.headRecs ∧ (departure s).linTab = s.linTab ∧ (departure s).contexts = s.contexts ∧
      (departure s).activeHead = s.activeHead ∧ (departure s).clock = s.clock ∧ (departure s).runout = s.runout ∧
      (departure s).defects = s.defects ∧ (departure s).steps = s.steps := by
  unfold departure; split <;> simp

@[simp] theorem lockClock_frame (t : Nat) (a : Acquisition) (s : State) :
    (lockClock t a s).pending = s.pending ∧ (lockClock t a s).link = s.link ∧
      (lockClock t a s).settings = s.settings ∧ (lockClock t a s).headRecs = s.headRecs ∧
      (lockClock t a s).linTab = s.linTab ∧ (lockClock t a s).contexts = s.contexts ∧
      (lockClock t a s).activeHead = s.activeHead ∧ (lockClock t a s).runout = s.runout ∧
      (lockClock t a s).engine = s.engine ∧ (lockClock t a s).defects = s.defects ∧
      (lockClock t a s).steps = s.steps ∧ (lockClock t a s).plan = s.plan := by simp [lockClock]

@[simp] theorem endMeasurement_frame (t w : Nat) (a : Acquisition) (s : State) :
    (endMeasurement t w a s).pending = s.pending ∧ (endMeasurement t w a s).link = s.link ∧
      (endMeasurement t w a s).settings = s.settings ∧ (endMeasurement t w a s).headRecs = s.headRecs ∧
      (endMeasurement t w a s).linTab = s.linTab ∧ (endMeasurement t w a s).contexts = s.contexts ∧
      (endMeasurement t w a s).activeHead = s.activeHead ∧ (endMeasurement t w a s).runout = s.runout ∧
      (endMeasurement t w a s).engine = s.engine ∧ (endMeasurement t w a s).defects = s.defects ∧
      (endMeasurement t w a s).steps = s.steps ∧ (endMeasurement t w a s).plan = s.plan := by
  unfold endMeasurement; split <;> simp

@[simp] theorem loseClock_frame (c : Nat) (s : State) :
    (loseClock c s).pending = s.pending ∧ (loseClock c s).link = s.link ∧ (loseClock c s).settings = s.settings ∧
      (loseClock c s).headRecs = s.headRecs ∧ (loseClock c s).linTab = s.linTab ∧
      (loseClock c s).contexts = s.contexts ∧ (loseClock c s).activeHead = s.activeHead ∧
      (loseClock c s).runout = s.runout ∧ (loseClock c s).defects = s.defects ∧ (loseClock c s).steps = s.steps := by simp [loseClock]

@[simp] theorem unlockClock_frame (s : State) :
    (unlockClock s).pending = s.pending ∧ (unlockClock s).link = s.link ∧ (unlockClock s).settings = s.settings ∧
      (unlockClock s).headRecs = s.headRecs ∧ (unlockClock s).linTab = s.linTab ∧
      (unlockClock s).contexts = s.contexts ∧ (unlockClock s).activeHead = s.activeHead ∧
      (unlockClock s).runout = s.runout ∧ (unlockClock s).defects = s.defects ∧ (unlockClock s).steps = s.steps := by simp [unlockClock]

@[simp] theorem idleExpiry_frame (s : State) :
    (idleExpiry s).pending = s.pending ∧ (idleExpiry s).link = s.link ∧ (idleExpiry s).settings = s.settings ∧
      (idleExpiry s).headRecs = s.headRecs ∧ (idleExpiry s).linTab = s.linTab ∧
      (idleExpiry s).contexts = s.contexts ∧ (idleExpiry s).activeHead = s.activeHead ∧
      (idleExpiry s).runout = s.runout ∧ (idleExpiry s).defects = s.defects ∧ (idleExpiry s).steps = s.steps := by
  unfold idleExpiry; split <;> simp

@[simp] theorem offerPosition_frame (p : Position) (s : State) :
    (offerPosition p s).pending = s.pending ∧ (offerPosition p s).link = s.link ∧
      (offerPosition p s).settings = s.settings ∧ (offerPosition p s).headRecs = s.headRecs ∧
      (offerPosition p s).linTab = s.linTab ∧ (offerPosition p s).contexts = s.contexts ∧
      (offerPosition p s).activeHead = s.activeHead ∧ (offerPosition p s).clock = s.clock ∧
      (offerPosition p s).runout = s.runout ∧ (offerPosition p s).engine = s.engine ∧
      (offerPosition p s).defects = s.defects ∧ (offerPosition p s).steps = s.steps ∧
      (offerPosition p s).plan = s.plan := by simp [offerPosition]

@[simp] theorem synthesize_frame (w : Nat) (s : State) :
    (synthesize w s).pending = s.pending ∧ (synthesize w s).link = s.link ∧ (synthesize w s).settings = s.settings ∧
      (synthesize w s).headRecs = s.headRecs ∧ (synthesize w s).linTab = s.linTab ∧
      (synthesize w s).contexts = s.contexts ∧ (synthesize w s).activeHead = s.activeHead ∧
      (synthesize w s).clock = s.clock ∧ (synthesize w s).runout = s.runout ∧ (synthesize w s).engine = s.engine ∧
      (synthesize w s).defects = s.defects ∧ (synthesize w s).steps = s.steps ∧ (synthesize w s).plan = s.plan := by
  unfold synthesize; split <;> (try split_ifs) <;> simp

@[simp] theorem declareMissed_frame (s : State) :
    (declareMissed s).pending = s.pending ∧ (declareMissed s).link = s.link ∧
      (declareMissed s).settings = s.settings ∧ (declareMissed s).headRecs = s.headRecs ∧
      (declareMissed s).linTab = s.linTab ∧ (declareMissed s).contexts = s.contexts ∧
      (declareMissed s).activeHead = s.activeHead ∧ (declareMissed s).runout = s.runout ∧
      (declareMissed s).defects = s.defects ∧ (declareMissed s).steps = s.steps := by
  unfold declareMissed; split <;> (try split_ifs) <;> simp

@[simp] theorem closePast_frame (t n : Nat) (s : State) :
    (closePast t n s).pending = s.pending ∧ (closePast t n s).link = s.link ∧
      (closePast t n s).settings = s.settings ∧ (closePast t n s).headRecs = s.headRecs ∧
      (closePast t n s).linTab = s.linTab ∧ (closePast t n s).contexts = s.contexts ∧
      (closePast t n s).activeHead = s.activeHead ∧ (closePast t n s).runout = s.runout ∧
      (closePast t n s).defects = s.defects ∧ (closePast t n s).steps = s.steps := by
  induction n generalizing s with
  | zero => simp [closePast]
  | succ n ih => unfold closePast; split <;> simp [ih]

@[simp] theorem applyRuling_frame (r : Ruling) (t w : Nat) (s : State) :
    (applyRuling r t w s).pending = s.pending ∧ (applyRuling r t w s).link = s.link ∧
      (applyRuling r t w s).settings = s.settings ∧ (applyRuling r t w s).headRecs = s.headRecs ∧
      (applyRuling r t w s).linTab = s.linTab ∧ (applyRuling r t w s).contexts = s.contexts ∧
      (applyRuling r t w s).activeHead = s.activeHead ∧ (applyRuling r t w s).runout = s.runout ∧
      (applyRuling r t w s).defects = s.defects ∧ (applyRuling r t w s).steps = s.steps := by
  unfold applyRuling; split <;> simp

@[simp] theorem acquireFrame_frame (t w : Nat) (i : Bool) (s : State) :
    (acquireFrame t w i s).pending = s.pending ∧ (acquireFrame t w i s).link = s.link ∧
      (acquireFrame t w i s).settings = s.settings ∧ (acquireFrame t w i s).headRecs = s.headRecs ∧
      (acquireFrame t w i s).linTab = s.linTab ∧ (acquireFrame t w i s).contexts = s.contexts ∧
      (acquireFrame t w i s).activeHead = s.activeHead ∧ (acquireFrame t w i s).runout = s.runout ∧
      (acquireFrame t w i s).engine = s.engine ∧ (acquireFrame t w i s).defects = s.defects ∧
      (acquireFrame t w i s).steps = s.steps ∧ (acquireFrame t w i s).plan = s.plan := by
  unfold acquireFrame; split <;> (try split_ifs) <;> simp

@[simp] theorem ruleStage_frame (t w : Nat) (i : Bool) (s : State) :
    (ruleStage t w i s).1.pending = s.pending ∧ (ruleStage t w i s).1.link = s.link ∧
      (ruleStage t w i s).1.settings = s.settings ∧ (ruleStage t w i s).1.headRecs = s.headRecs ∧
      (ruleStage t w i s).1.linTab = s.linTab ∧ (ruleStage t w i s).1.contexts = s.contexts ∧
      (ruleStage t w i s).1.activeHead = s.activeHead ∧ (ruleStage t w i s).1.runout = s.runout ∧
      (ruleStage t w i s).1.defects = s.defects ∧ (ruleStage t w i s).1.steps = s.steps := by
  unfold ruleStage; split <;> simp

@[simp] theorem revolutionEvent_frame (h : Nat) (s : State) :
    (revolutionEvent h s).pending = s.pending ∧ (revolutionEvent h s).link = s.link ∧
      (revolutionEvent h s).settings = s.settings ∧ (revolutionEvent h s).headRecs = s.headRecs ∧
      (revolutionEvent h s).linTab = s.linTab ∧ (revolutionEvent h s).contexts = s.contexts ∧
      (revolutionEvent h s).activeHead = s.activeHead ∧ (revolutionEvent h s).runout = s.runout ∧
      (revolutionEvent h s).engine = s.engine ∧ (revolutionEvent h s).steps = s.steps ∧
      (revolutionEvent h s).plan = s.plan := by simp [revolutionEvent]

@[simp] theorem clockStage_frame (t h w : Nat) (i : Bool) (s : State) :
    (clockStage t h w i s).1.pending = s.pending ∧ (clockStage t h w i s).1.link = s.link ∧
      (clockStage t h w i s).1.settings = s.settings ∧ (clockStage t h w i s).1.headRecs = s.headRecs ∧
      (clockStage t h w i s).1.linTab = s.linTab ∧ (clockStage t h w i s).1.contexts = s.contexts ∧
      (clockStage t h w i s).1.activeHead = s.activeHead ∧ (clockStage t h w i s).1.runout = s.runout ∧
      (clockStage t h w i s).1.steps = s.steps := by
  unfold clockStage; dsimp only; split <;> simp

@[simp] theorem storeDemodulated_frame (x : Int) (f : WedgeRead) (s : State) :
    (storeDemodulated x f s).pending = s.pending ∧ (storeDemodulated x f s).link = s.link ∧
      (storeDemodulated x f s).out = s.out ∧ (storeDemodulated x f s).settings = s.settings ∧
      (storeDemodulated x f s).headRecs = s.headRecs ∧ (storeDemodulated x f s).linTab = s.linTab ∧
      (storeDemodulated x f s).activeHead = s.activeHead ∧ (storeDemodulated x f s).clock = s.clock ∧
      (storeDemodulated x f s).runout = s.runout ∧ (storeDemodulated x f s).engine = s.engine ∧
      (storeDemodulated x f s).defects = s.defects ∧ (storeDemodulated x f s).steps = s.steps ∧
      (storeDemodulated x f s).plan = s.plan := by
  unfold storeDemodulated; split <;> simp

@[simp] theorem monitorCount_frame (h w : Nat) (x : Int) (s : State) :
    (monitorCount h w x s).1.pending = s.pending ∧ (monitorCount h w x s).1.link = s.link ∧
      (monitorCount h w x s).1.settings = s.settings ∧ (monitorCount h w x s).1.headRecs = s.headRecs ∧
      (monitorCount h w x s).1.linTab = s.linTab ∧ (monitorCount h w x s).1.activeHead = s.activeHead ∧
      (monitorCount h w x s).1.clock = s.clock ∧ (monitorCount h w x s).1.runout = s.runout ∧
      (monitorCount h w x s).1.engine = s.engine ∧ (monitorCount h w x s).1.defects = s.defects ∧
      (monitorCount h w x s).1.steps = s.steps ∧ (monitorCount h w x s).1.plan = s.plan := by
  unfold monitorCount; dsimp only; split_ifs <;> simp

@[simp] theorem sampleStage_frame (f : WedgeRead) (k : FrameFacts) (x : Int) (s : State) :
    (sampleStage f k x s).pending = s.pending ∧ (sampleStage f k x s).link = s.link ∧
      (sampleStage f k x s).out = s.out ∧ (sampleStage f k x s).alerts = s.alerts ∧
      (sampleStage f k x s).settings = s.settings ∧ (sampleStage f k x s).headRecs = s.headRecs ∧
      (sampleStage f k x s).linTab = s.linTab ∧ (sampleStage f k x s).contexts = s.contexts ∧
      (sampleStage f k x s).activeHead = s.activeHead ∧ (sampleStage f k x s).clock = s.clock ∧
      (sampleStage f k x s).runout = s.runout ∧ (sampleStage f k x s).defects = s.defects ∧
      (sampleStage f k x s).steps = s.steps ∧ (sampleStage f k x s).plan = s.plan := by
  unfold sampleStage; split <;> simp

@[simp] theorem demodulatedStage_frame (f : WedgeRead) (k : FrameFacts) (x : Int) (s : State) :
    (demodulatedStage f k x s).1.pending = s.pending ∧ (demodulatedStage f k x s).1.link = s.link ∧
      (demodulatedStage f k x s).1.settings = s.settings ∧ (demodulatedStage f k x s).1.headRecs = s.headRecs ∧
      (demodulatedStage f k x s).1.linTab = s.linTab ∧ (demodulatedStage f k x s).1.activeHead = s.activeHead ∧
      (demodulatedStage f k x s).1.clock = s.clock ∧ (demodulatedStage f k x s).1.runout = s.runout ∧
      (demodulatedStage f k x s).1.defects = s.defects ∧ (demodulatedStage f k x s).1.steps = s.steps := by
  unfold demodulatedStage; split <;> simp

@[simp] theorem heldStage_frame (f : WedgeRead) (a : Bool) (s : State) :
    (heldStage f a s).pending = s.pending ∧ (heldStage f a s).link = s.link ∧
      (heldStage f a s).settings = s.settings ∧ (heldStage f a s).headRecs = s.headRecs ∧
      (heldStage f a s).linTab = s.linTab ∧ (heldStage f a s).contexts = s.contexts ∧
      (heldStage f a s).activeHead = s.activeHead ∧ (heldStage f a s).clock = s.clock ∧
      (heldStage f a s).runout = s.runout ∧ (heldStage f a s).engine = s.engine ∧ (heldStage f a s).steps = s.steps ∧
      (heldStage f a s).plan = s.plan := by
  unfold heldStage; split <;> simp

@[simp] theorem frameStage_frame (f : WedgeRead) (k : FrameFacts) (s : State) :
    (frameStage f k s).1.pending = s.pending ∧ (frameStage f k s).1.link = s.link ∧
      (frameStage f k s).1.settings = s.settings ∧ (frameStage f k s).1.headRecs = s.headRecs ∧
      (frameStage f k s).1.linTab = s.linTab ∧ (frameStage f k s).1.activeHead = s.activeHead ∧
      (frameStage f k s).1.clock = s.clock ∧ (frameStage f k s).1.runout = s.runout ∧
      (frameStage f k s).1.steps = s.steps := by
  unfold frameStage; split <;> simp

@[simp] theorem forward_frame (b : Frame) (p : Position) (s : State) :
    (forward b p s).pending = s.pending ∧ (forward b p s).link = s.link ∧ (forward b p s).settings = s.settings ∧
      (forward b p s).headRecs = s.headRecs ∧ (forward b p s).linTab = s.linTab ∧
      (forward b p s).contexts = s.contexts ∧ (forward b p s).activeHead = s.activeHead ∧
      (forward b p s).clock = s.clock ∧ (forward b p s).runout = s.runout ∧ (forward b p s).engine = s.engine ∧
      (forward b p s).defects = s.defects ∧ (forward b p s).steps = s.steps ∧ (forward b p s).plan = s.plan := by
  unfold forward; split <;> simp

@[simp] theorem zeroRunout_frame (h : Nat) (s : State) :
    (zeroRunout h s).pending = s.pending ∧ (zeroRunout h s).link = s.link ∧ (zeroRunout h s).out = s.out ∧
      (zeroRunout h s).alerts = s.alerts ∧ (zeroRunout h s).settings = s.settings ∧
      (zeroRunout h s).headRecs = s.headRecs ∧ (zeroRunout h s).linTab = s.linTab ∧
      (zeroRunout h s).contexts = s.contexts ∧ (zeroRunout h s).activeHead = s.activeHead ∧
      (zeroRunout h s).clock = s.clock ∧ (zeroRunout h s).engine = s.engine ∧ (zeroRunout h s).defects = s.defects ∧
      (zeroRunout h s).steps = s.steps ∧ (zeroRunout h s).plan = s.plan := by simp [zeroRunout]

@[simp] theorem answer_frame (m : Mgmt) (r : Reply) (s : State) :
    (answer m r s).pending = s.pending ∧ (answer m r s).alerts = s.alerts ∧ (answer m r s).settings = s.settings ∧
      (answer m r s).headRecs = s.headRecs ∧ (answer m r s).linTab = s.linTab ∧
      (answer m r s).contexts = s.contexts ∧ (answer m r s).activeHead = s.activeHead ∧
      (answer m r s).clock = s.clock ∧ (answer m r s).runout = s.runout ∧ (answer m r s).engine = s.engine ∧
      (answer m r s).defects = s.defects ∧ (answer m r s).steps = s.steps ∧ (answer m r s).plan = s.plan := by simp [answer]

@[simp] theorem handleWedge_frame (t : Nat) (f : WedgeRead) (b : Frame) (s : State) :
    (handleWedge t f b s).pending = s.pending ∧ (handleWedge t f b s).link = s.link ∧
      (handleWedge t f b s).settings = s.settings ∧ (handleWedge t f b s).linTab = s.linTab ∧
      (handleWedge t f b s).steps = s.steps := by simp [handleWedge]

@[simp] theorem passWedge_frame (t : Nat) (f : WedgeRead) (b : Frame) (s : State) :
    (passWedge t f b s).pending = s.pending ∧ (passWedge t f b s).link = s.link ∧
      (passWedge t f b s).settings = s.settings ∧ (passWedge t f b s).linTab = s.linTab ∧
      (passWedge t f b s).contexts = s.contexts ∧ (passWedge t f b s).activeHead = s.activeHead ∧
      (passWedge t f b s).runout = s.runout ∧ (passWedge t f b s).steps = s.steps := by
  unfold passWedge; split_ifs <;> simp

@[simp] theorem takeWedge_frame (t : Nat) (f : WedgeRead) (b : Frame) (s : State) :
    (takeWedge t f b s).pending = s.pending ∧ (takeWedge t f b s).link = s.link ∧
      (takeWedge t f b s).settings = s.settings ∧ (takeWedge t f b s).linTab = s.linTab ∧
      (takeWedge t f b s).steps = s.steps := by
  unfold takeWedge; dsimp only; split <;> simp

end Sys2Proof.Laws
end

