-- ==== Sys2Proof/Laws/Effects.lean ====
section
/-! SUPPORT. What each shared operation does, case by case. A proof cites these in place of unfolding the operation; its frame
lemma of Laws/Frames.lean says what it leaves alone. -/

namespace Sys2Proof.Laws

open Sys2Proof.Machine

/-! ### Alerts and counters (R152, R156) -/

theorem raise_flags (a : Alert) (s : State) : (raise a s).alerts.flags = s.alerts.flags ||| a.weight := rfl

theorem raise_keeps_counters (a : Alert) (s : State) (k : Nat) : readCounter (raise a s) k = readCounter s k := rfl

theorem bumpBy_keeps_flags (c : Counter) (n : Nat) (s : State) : (bumpBy c n s).alerts.flags = s.alerts.flags := rfl

/-- Raising an alert never clears one. -/
theorem raise_keeps_set (a : Alert) (s : State) (i : Nat) (h : s.alerts.flags.getLsbD i = true) :
    (raise a s).alerts.flags.getLsbD i = true := by simp [h]

/-! ### Link failures (R7, R8) -/

theorem frontChecked_cases (b : Frame) (take : State → State) (s : State) :
    (∃ cause, linkCheck .front b = some cause ∧
        frontChecked b take s = raise .frontLinkError (bump cause.frontCounter s)) ∨
      (linkCheck .front b = none ∧ frontChecked b take s = take s) := by
  unfold frontChecked; split
  · next cause h => exact .inl ⟨cause, h, rfl⟩
  · next h => exact .inr ⟨h, rfl⟩

theorem benchChecked_cases (b : Frame) (take : State → State) (s : State) :
    (∃ cause, linkCheck .bench b = some cause ∧ benchChecked b take s =
        setLatch (s.link.latch.setCause cause) (raise .benchLinkError (bump cause.benchCounter s))) ∨
      (linkCheck .bench b = none ∧ benchChecked b take s = take s) := by
  unfold benchChecked; split
  · next cause h => exact .inl ⟨cause, h, rfl⟩
  · next h => exact .inr ⟨h, rfl⟩

/-! ### The front-port transmit FIFO (R12, R14) -/

theorem offerFifo_room (f : Frame) (s : State) (h : s.link.fifo.length < Config.fifoCapacity) :
    offerFifo f s = { s with link := { s.link with fifo := s.link.fifo ++ [f], frontSending := true } } := by
  simp [offerFifo, h]

theorem offerFifo_full (f : Frame) (s : State) (h : Config.fifoCapacity ≤ s.link.fifo.length) :
    offerFifo f s =
      raise .benchLinkError (setLatch { s.link.latch with fifoDrop := true } (bump .frontTransmitDrop s)) := by
  simp [offerFifo, Nat.not_lt.mpr h]

theorem frontTransmitEnd_sending (s : State) (h : s.link.frontSending = true) :
    frontTransmitEnd s =
      { s with link := { s.link with fifo := s.link.fifo.tail, frontSending := !s.link.fifo.tail.isEmpty } } := by
  simp [frontTransmitEnd, h]

theorem frontTransmitEnd_idle (s : State) (h : s.link.frontSending = false) : frontTransmitEnd s = s := by
  simp [frontTransmitEnd, h]

/-! ### Arbitration (R141, R142) -/

theorem admitted_sending (o : Output) (f : Frame) (h : o.sending = some f) : admitted o = o := by simp [admitted, h]

theorem admitted_free (o : Output) (h : o.sending = none) : admitted o = grantOutput o := by simp [admitted, h]

theorem grantOutput_loop (o : Output) (f : Frame) (rest : List Frame) (h : o.loop = f :: rest) :
    grantOutput o = { o with loop := rest, sending := some f } := by simp [grantOutput, h]

theorem grantOutput_round (o : Output) (c : RoundClass) (h : o.loop = []) (hc : roundChoice o = some c) :
    grantOutput o = roundGrant c o := by simp [grantOutput, h, hc]

theorem grantOutput_none (o : Output) (h : o.loop = []) (hc : roundChoice o = none) : grantOutput o = o := by
  simp [grantOutput, h, hc]

theorem roundChoice_at_position (o : Output) (h : (roundClass o.round).queue o ≠ []) :
    roundChoice o = some (roundClass o.round) := by simp [roundChoice, h]

/-- The class the round chooses has a frame waiting. -/
theorem roundChoice_queue (o : Output) (c : RoundClass) (h : roundChoice o = some c) : c.queue o ≠ [] := by
  unfold roundChoice at h
  split_ifs at h with h₁ h₂ h₃ h₄ <;> cases h <;> assumption

/-- The round chooses nothing exactly when the three classes it shares are empty. -/
theorem roundChoice_none (o : Output) :
    roundChoice o = none ↔ o.answer = [] ∧ o.report = [] ∧ o.status = [] := by
  constructor
  · intro h; unfold roundChoice at h
    split_ifs at h with h₁ h₂ h₃ h₄
    exact ⟨not_not.mp h₂, not_not.mp h₃, not_not.mp h₄⟩
  · rintro ⟨h₁, h₂, h₃⟩
    have hq : (roundClass o.round).queue o = [] := by cases roundClass o.round <;> assumption
    simp [roundChoice, hq, h₁, h₂, h₃]

theorem benchTransmitEnd_sending (s : State) (f : Frame) (h : s.out.sending = some f) :
    benchTransmitEnd s = { s with out := grantOutput { s.out with sending := none } } := by
  simp [benchTransmitEnd, h]

theorem benchTransmitEnd_free (s : State) (h : s.out.sending = none) : benchTransmitEnd s = s := by
  simp [benchTransmitEnd, h]

/-! ### Admission (R135 to R139) -/

theorem offerLoop_room (f : Frame) (s : State) (h : s.out.loop.length < Config.loopCapacity) :
    offerLoop f s = { s with out := admitted { s.out with loop := s.out.loop ++ [f] } } := by
  simp [offerLoop, h]

theorem offerLoop_full (f : Frame) (s : State) (h : Config.loopCapacity ≤ s.out.loop.length) :
    offerLoop f s =
      bump .loopDrop { s with out := admitted { s.out with loop := s.out.loop.tail ++ [f] } } := by
  simp only [offerLoop, Nat.not_lt.mpr h, if_false]; rfl

theorem offerStatus_room (f : Frame) (s : State) (h : s.out.status.length < Config.statusCapacity) :
    offerStatus f s = { s with out := admitted { s.out with status := s.out.status ++ [f] } } := by
  simp [offerStatus, h]

theorem offerStatus_full (f : Frame) (s : State) (h : Config.statusCapacity ≤ s.out.status.length) :
    offerStatus f s = bump .statusDrop s := by simp [offerStatus, Nat.not_lt.mpr h]

theorem offerReport_room (k : Nat) (r : List Byte) (s : State) (h : s.out.report.length < Config.reportCapacity) :
    offerReport k r s =
      { s with out := admitted { s.out with report := s.out.report ++ [reportFrame k s.clock.stamp r] } } := by
  simp [offerReport, h]

theorem offerReport_full (k : Nat) (r : List Byte) (s : State) (h : Config.reportCapacity ≤ s.out.report.length) :
    offerReport k r s = raise .reportOverflow (bump .reportDrop s) := by simp [offerReport, Nat.not_lt.mpr h]

/-- A report offered behind a frame that is being sent and with room waits in its queue, and nothing else changes. -/
theorem offerReport_waits (k : Nat) (r : List Byte) (s : State) (f : Frame) (h : s.out.report.length < Config.reportCapacity)
    (hs : s.out.sending = some f) :
    offerReport k r s =
      { s with out := { s.out with report := s.out.report ++ [reportFrame k s.clock.stamp r] } } := by
  rw [offerReport_room k r s h]; simp [admitted, hs]

theorem offerDefectNotice_unlimited (r : List Byte) (s : State) (h : s.out.budget = .unlimited) :
    offerDefectNotice r s = offerReport 3 r s := by simp [offerDefectNotice, h]

theorem offerDefectNotice_refused (r : List Byte) (s : State) (h : s.out.budget = .left 0) :
    offerDefectNotice r s = bump .budgetDrop s := by simp [offerDefectNotice, h]

theorem offerDefectNotice_left (r : List Byte) (s : State) (n : Nat) (h : s.out.budget = .left (n + 1)) :
    offerDefectNotice r s = offerReport 3 r { s with out := { s.out with budget := .left n } } := by
  simp [offerDefectNotice, h]

/-! ### The Defect Table (R96 to R98, R102) -/

theorem recordHit_cases (h w : Nat) (s : State) :
    (∃ slot e, findDefect s.defects h w = some (slot, e) ∧ recordHit h w s = hitExisting slot e s) ∨
    (findDefect s.defects h w = none ∧
      ((∃ slot, lowestEmptySlot s.defects = some slot ∧ recordHit h w s = createByHit slot h w s) ∨
       (lowestEmptySlot s.defects = none ∧
        ((∃ v, evictionVictim s.defects = some v ∧ recordHit h w s = createByHit v.1 h w (evict v s)) ∨
         (evictionVictim s.defects = none ∧ recordHit h w s = raise .defectFull (bump .defectDrop s)))))) := by
  rcases hf : findDefect s.defects h w with _ | ⟨slot, e⟩ <;> cases hl : lowestEmptySlot s.defects <;>
    cases hv : evictionVictim s.defects <;> simp [recordHit, hf, hl, hv]

/-- Adding to the table fails only with no entry of the head and wedge, no empty slot and no SUSPECT entry, and then changes
nothing. -/
theorem addDefect_full (h w : Nat) (s : State) (hf : (addDefect h w s).2 = .full) :
    findDefect s.defects h w = none ∧ lowestEmptySlot s.defects = none ∧ evictionVictim s.defects = none ∧
      (addDefect h w s).1 = s := by
  cases h₁ : findDefect s.defects h w <;> cases h₂ : lowestEmptySlot s.defects <;>
    cases h₃ : evictionVictim s.defects <;> simp_all [addDefect]

/-- The entry eviction takes is a SUSPECT entry of the table. -/
theorem evictionVictim_mem (t : Table DefectEntry) (v : Nat × DefectEntry) (h : evictionVictim t = some v) :
    v ∈ t ∧ v.2.state = .suspect := by
  induction t generalizing v with
  | nil => simp [evictionVictim] at h
  | cons c t ih =>
    unfold evictionVictim at h
    split at h
    · next hc =>
      split at h
      · next u hu =>
        split at h
        · cases h; exact ⟨List.mem_cons_of_mem _ (ih _ hu).1, (ih _ hu).2⟩
        · cases h; exact ⟨List.mem_cons_self, hc⟩
      · cases h; exact ⟨List.mem_cons_self, hc⟩
    · exact ⟨List.mem_cons_of_mem _ (ih _ h).1, (ih _ h).2⟩

/-- A slot that is found empty is below the capacity and holds no entry. -/
theorem lowestEmptySlot_spec (t : Table DefectEntry) (k : Nat) (h : lowestEmptySlot t = some k) :
    k < Config.defectSlots ∧ Table.find? t k = none := by
  unfold lowestEmptySlot at h
  exact ⟨List.mem_range.mp (List.mem_of_find?_eq_some h), by simpa using List.find?_some h⟩

/-! ### The Runout Engine (R79, R81, R82, R85, R89, R90) -/

theorem discardAccumulation_running (s : State) (h : s.engine.pass = .accumulate) :
    discardAccumulation s =
      bump .passRestarts (setEngine { s.engine with cells := [], revs := 0, pass := .ready } s) := by
  simp [discardAccumulation, h]

theorem discardAccumulation_other (s : State) (h : s.engine.pass ≠ .accumulate) : discardAccumulation s = s := by
  simp [discardAccumulation, h]

theorem countPassRevolution_last (s : State) (b : Binding) (p : PassParams) (hb : s.engine.binding = some b)
    (hp : s.engine.params = some p) (h : p.revolutions ≤ s.engine.revs + 1) :
    countPassRevolution s = setEngine { s.engine with
      revs := s.engine.revs + 1, pass := .solve, pendingSolve := some (computeSolve b.head p s) } s := by
  simp [countPassRevolution, hb, hp, h]

theorem countPassRevolution_more (s : State) (b : Binding) (p : PassParams) (hb : s.engine.binding = some b)
    (hp : s.engine.params = some p) (h : s.engine.revs + 1 < p.revolutions) :
    countPassRevolution s = setEngine { s.engine with revs := s.engine.revs + 1 } s := by
  simp [countPassRevolution, hb, hp, Nat.not_le.mpr h]

theorem beginPass_engine (h n : Nat) (s : State) :
    (beginPass h n s).engine.pass = .accumulate ∧ (beginPass h n s).engine.revs = 0 ∧
      (beginPass h n s).engine.cells = [] ∧
      (beginPass h n s).engine.binding =
        (if s.engine.pass = .unbound then some { head := h, step := n } else s.engine.binding) ∧
      (beginPass h n s).engine.params =
        (if s.engine.pass = .unbound then some (passParams (planStep s n)) else s.engine.params) ∧
      (beginPass h n s).engine.passNumber = (if s.engine.pass = .unbound then 1 else s.engine.passNumber) := by
  by_cases hp : s.engine.pass = .unbound <;> simp [beginPass, setEngine, hp]

theorem applyStage_none (h : Nat) (index : Bool) (s : State)
    (hn : index = false ∨ boundTo s h = false ∨ s.engine.pass ≠ .solve) : applyStage h index s = (s, none) := by
  rcases hn with hn | hn | hn <;> simp [applyStage, hn]

theorem applyStage_some (h : Nat) (s : State) (hb : boundTo s h = true) (hp : s.engine.pass = .solve) :
    applyStage h true s = applySolve s := by simp [applyStage, hb, hp]

/-- The entries the apply leaves: the solve's for the bound head, the others as they were. -/
theorem applySolve_runout (s : State) (b : Binding) (p : PassParams) (v : PendingSolve) (hb : s.engine.binding = some b)
    (hp : s.engine.params = some p) (hv : s.engine.pendingSolve = some v) :
    (applySolve s).1.runout = Table.setAll 0 s.runout (b.head * Config.wedgeCells) v.entries ∧
      (applySolve s).2 = some (afterApply p s.engine.passNumber v) := by
  simp only [applySolve, hb, hp, hv]
  split_ifs <;> simp [tallyApply, setEngine, writeEntries]

/-! ### The Plan Controller (R120 to R124) -/

theorem returnToWaiting_active (s : State) (n : Nat) (hc : s.plan.current = some n) (hs : s.plan.sub = some .active) :
    returnToWaiting s =
      setPlan { s.plan with sub := some .waiting, regs := {}, waitTimer := waitTimerOf (planStep s n).timeout } s := by
  simp [returnToWaiting, hc, hs]

theorem returnToWaiting_other (s : State) (hs : s.plan.sub ≠ some .active) : returnToWaiting s = s := by
  unfold returnToWaiting; split
  · next h => exact absurd h hs
  · rfl

theorem tryActivate_cases (h : Nat) (s : State) :
    (s.plan.sub = some .waiting ∧ activationHolds s h = true ∧
        tryActivate h s = setPlan { s.plan with sub := some .active, regs := {}, waitTimer := none } s) ∨
      (¬(s.plan.sub = some .waiting ∧ activationHolds s h = true) ∧ tryActivate h s = s) := by
  unfold tryActivate; split
  · next hc => exact .inl ⟨hc.1, hc.2, rfl⟩
  · next hc => exact .inr ⟨hc, rfl⟩

/-- The advance after a step's end: the plan ends for one of three reasons, or the next step is entered. -/
theorem advance_cases (n : Nat) (outcome : StepOutcome) (s : State) :
    (outcome = .aborted ∧ advance n outcome s = endPlan .stopped s) ∨
    (outcome ≠ .aborted ∧ outcome.failure = true ∧ (planStep s n).onFail = .stop ∧
      advance n outcome s = endPlan .failed s) ∨
    (outcome ≠ .aborted ∧ ¬(outcome.failure = true ∧ (planStep s n).onFail = .stop) ∧
      (n = 31 ∨ (planStep s (n + 1)).phase = .none) ∧ advance n outcome s = endPlan .complete s) ∨
    (outcome ≠ .aborted ∧ ¬(outcome.failure = true ∧ (planStep s n).onFail = .stop) ∧
      ¬(n = 31 ∨ (planStep s (n + 1)).phase = .none) ∧ advance n outcome s = enterStep (n + 1) s) := by
  unfold advance
  split_ifs with h₁ h₂ h₃
  · exact .inl ⟨h₁, rfl⟩
  · exact .inr (.inl ⟨h₁, h₂.1, h₂.2, rfl⟩)
  · exact .inr (.inr (.inl ⟨h₁, h₂, h₃, rfl⟩))
  · exact .inr (.inr (.inr ⟨h₁, h₂, h₃, rfl⟩))

/-- A plan that ends: ENDED, no step, the timer stopped, the alert up. -/
theorem endPlan_plan (reason : PlanReason) (s : State) :
    (endPlan reason s).plan = { s.plan with state := .ended, current := none, sub := none, waitTimer := none } := by
  simp [endPlan, setPlan]

theorem stopPlan_idle (s : State) (h : s.plan.state ≠ .running) : stopPlan s = s := by
  unfold stopPlan; split
  · next hr _ => exact absurd hr h
  · rfl

theorem waitTimerExpiry_stopped (s : State) (h : s.plan.waitTimer = none) : waitTimerExpiry s = s := by
  simp [waitTimerExpiry, h]

theorem waitTimerExpiry_running (s : State) (t n : Nat) (ht : s.plan.waitTimer = some t) (hc : s.plan.current = some n) :
    waitTimerExpiry s = endStep n .timeoutWait s := by simp [waitTimerExpiry, ht, hc]

/-- Only the head's own mark of a target change goes; every other context stays. -/
@[simp] theorem headContext_passTargetChange (h k : Nat) (s : State) :
    headContext (passTargetChange h s) k =
      if k = h then { headContext s h with retargeted := false } else headContext s k := by
  simp [passTargetChange]

/-- What a HOLD frame leaves of the mark: none with SEEK; at a new target S above 0; else what stood (R57, R86; log 23). -/
@[simp] theorem holdContext_retargeted (n : Nat) (f : HoldRead) (c : HeadContext) :
    (holdContext n f c).retargeted =
      if f.seek then false else if targetDiffers c f then decide (0 < n) else c.retargeted := by
  unfold holdContext; split <;> rfl

end Sys2Proof.Laws
end

