-- ==== Sys2Proof/Tests/Slice0.lean ====
section
/-! SUPPORT. Tests, each on one step or one small computation: ill-formed commands, the worked cases of the manual with its own
results, and for each statement with hypotheses a concrete state and operands that meet them (`witness_<Statement>`). -/

namespace Sys2Proof.Tests

set_option Elab.async false

open Sys2Proof.Machine Sys2Proof.Safety

/-! ### Builders -/

/-- A WEDGE frame with the right length byte and CRC; flags: 1 SYNC, 2 GRAY, 4 INDEX. -/
def wedgeOf (head wedge track a b c d flags : Nat) : WedgeFrame :=
  let f : WedgeFrame :=
    { length := 15
      head := BitVec.ofNat 8 head
      wedge := BitVec.ofNat 16 wedge
      track := BitVec.ofNat 24 track
      a := BitVec.ofNat 16 a
      b := BitVec.ofNat 16 b
      c := BitVec.ofNat 16 c
      d := BitVec.ofNat 16 d
      flags := BitVec.ofNat 8 flags
      crc := 0 }
  { f with crc := crc16 (f.bytes.take 17) }

/-- A sound frame: SYNC, GRAY, all bursts equal. -/
def soundWedge (head wedge : Nat) : WedgeFrame := wedgeOf head wedge 100 1000 1000 1000 1000 3

/-- A sound index frame. -/
def indexWedge (head : Nat) : WedgeFrame := wedgeOf head 0 100 1000 1000 1000 1000 7

/-- A frame without GRAY. -/
def faultWedge (head wedge : Nat) : WedgeFrame := wedgeOf head wedge 100 1000 1000 1000 1000 1

/-- A HOLD frame with the right length byte and CRC; flags: 1 SEEK. -/
def holdOf (head track : Nat) (offset : Int) (flags : Nat) : HoldFrame :=
  let f : HoldFrame :=
    { length := 7
      head := BitVec.ofNat 8 head
      track := BitVec.ofNat 24 track
      offset := BitVec.ofInt 16 offset
      flags := BitVec.ofNat 8 flags
      crc := 0 }
  { f with crc := crc16 (f.bytes.take 9) }

/-- A FESTAT or FECMD frame with the right length byte and CRC. -/
def opaqueOf (kind : Byte) (body : List Byte) : OpaqueFrame :=
  let f : OpaqueFrame := { length := BitVec.ofNat 8 body.length, body := body, crc := 0 }
  { f with crc := crc16 ((f.bytes kind).take (2 + body.length)) }

/-- A MGMT frame's fields with the given count byte and the right length byte and CRC. -/
def countedRequest (code object : Byte) (count index : Nat) (values : List Int) : Request :=
  let r : Request :=
    { length := BitVec.ofNat 8 (6 + 4 * values.length)
      token := 0x11
      count := BitVec.ofNat 8 count
      index := BitVec.ofNat 16 index
      values := values.map (BitVec.ofInt 32)
      crc := 0 }
  { r with crc := crc16 ((r.bytes code object).take (8 + 4 * values.length)) }

/-- A MGMT frame's fields, count and length by the values it carries. -/
def requestWith (code object : Byte) (index : Nat) (values : List Int) : Request :=
  countedRequest code object values.length index values

/-- The frame with its last CRC byte corrupted. -/
def spoiled (f : OpaqueFrame) : OpaqueFrame := { f with crc := f.crc ^^^ 1 }

/-- The state a command leaves. -/
def after (c : Instr) (s : State) : State :=
  match exec c s with
  | .next t => t
  | _ => s

/-- The state that commands leave one after another. -/
def afterAll (cs : List Instr) (s : State) : State := cs.foldl (fun s c => after c s) s

/-! ### States -/

/-- The part after reset, with a frame in transmission at the bench port. -/
def busy : State := { State.reset with out := { State.reset.out with sending := some [0] } }

/-- Head 3 in CORRECTED mode as the manual's worked case of 2.12 has it; switch settle 2, as its 3.8 has it. -/
def head3 : State :=
  { busy with
    settings := { switchSettle := 2 }
    headRecs := [(3, { mode := .corrected, compEnable := true, ownOffset := 35, defectLearn := true })]
    linTab := [(31, -6), (32, 10)]
    runout := [(1553, -12)]
    contexts := [(3, { targetValid := true, targetTrack := 40000, targetOffset := 20, held := 41 })]
    activeHead := some 3 }

/-- The clock of the manual's 4.8 to 4.10: W 512, P 651, r 28, h 81; wedge 4 expected at 2608. -/
def clock651 : State :=
  { head3 with
    settings := { wedges := 512 }
    out := { head3.out with refreshTimer := none }
    clock :=
      { state := .locked
        revLength := 333340
        period := 651
        remainder := 28
        expected := some { wedge := 4, predicted := 2608, halfWidth := 81 }
        lastIndex := some 0
        idleTimer := some 20 } }

/-- W 64, P 200; head 0 active on its target; a LEARN step on head 0 ACTIVE, its second pass accumulating; the next index frame
expected at tick 22800. -/
def learning : State :=
  { busy with
    settings := { wedges := 64 }
    out := { busy.out with refreshTimer := none }
    contexts := [(0, { targetValid := true, targetTrack := 100 })]
    activeHead := some 0
    clock :=
      { state := .locked
        revLength := 12800
        period := 200
        expected := some { wedge := 0, predicted := 22800, halfWidth := 25 }
        lastIndex := some 10000
        idleTimer := some 20
        stamp := 7 }
    steps := [(0, { phase := .learn, m := 1, passes := 3, timeout := 9 }), (1, { phase := .verify })]
    engine :=
      { cells := [(1, { sum := 40, count := 1 })]
        binding := some { head := 0, step := 0 }
        pass := .accumulate
        passNumber := 2
        revs := 1
        params := some { revolutions := 2, passes := 3, gain := 16, limit := 0, fold := false } }
    defects := [(0, { head := 0, wedge := 5, state := .suspect, hits := 1, quiet := 31, mark := false })]
    plan := { state := .running, current := some 0, sub := some .active, tallies := { applied := 1 } } }

/-- The same with a solve waiting to be applied. -/
def solving : State :=
  { learning with engine := { learning.engine with
      cells := []
      pass := .solve
      revs := 2
      pendingSolve := some
        { entries := List.replicate 64 5, meanFold := 0, updated := 64, thin := 0, saturated := 0, largest := 5 } } }

/-- The same with the step WAITING. -/
def waitingStep : State :=
  { learning with
    engine := {}
    plan := { learning.plan with sub := some .waiting, waitTimer := some 9 } }

/-- A defect table with no empty slot: SUSPECT entries in slots 40 and 41, of equal quiet, the rest STATIC (6.9). -/
def fullTable : Table DefectEntry :=
  (List.range 256).map fun k =>
    (k, { head := 20, wedge := k, state := if k = 40 ∨ k = 41 then .suspect else .static, hits := 1, quiet := 12, mark := false })

/-! ### Ill-formed commands: each is refused by the check of its row -/

theorem test_raw_upstream_is_no_wedge : (Instr.unknownKindUpstream 0 (soundWedge 0 1).bytes).wellFormed = false := by
  decide +kernel

theorem test_raw_upstream_is_no_festat :
    (Instr.unknownKindUpstream 0 ((opaqueOf 0x22 [1]).bytes 0x22)).wellFormed = false := by decide +kernel

theorem test_raw_downstream_is_no_hold : (Instr.unknownKindDownstream (holdOf 0 0 0 0).bytes).wellFormed = false := by
  decide +kernel

theorem test_raw_downstream_is_no_fecmd :
    (Instr.unknownKindDownstream ((opaqueOf 0x31 [1]).bytes 0x31)).wellFormed = false := by decide +kernel

theorem test_raw_downstream_is_no_mgmt :
    (Instr.unknownKindDownstream ((requestWith 1 1 0 []).bytes 1 1)).wellFormed = false := by decide +kernel

theorem test_set_with_a_row_of_its_own :
    (Instr.set 2 (requestWith 2 2 0 [0])).wellFormed = false ∧ (Instr.set 8 (requestWith 2 8 0 [0])).wellFormed = false ∧
    (Instr.set 1 (requestWith 2 1 0 [0, 64])).wellFormed = false ∧
    (Instr.set 9 (requestWith 2 9 1 [0])).wellFormed = false := by decide +kernel

theorem test_mask_row_is_index_one : (Instr.setAlertMask (requestWith 2 9 0 [0])).wellFormed = false := by decide +kernel

theorem test_wedges_row_covers_w :
    (Instr.setWedgesPerRevolution (requestWith 2 1 2 [0])).wellFormed = false := by decide +kernel

theorem test_unknown_request_is_unknown : (Instr.unknownRequest 10 0 (requestWith 10 0 0 [])).wellFormed = false := by
  decide +kernel

theorem test_no_word_is_a_command : decodeTableWord 8 0x21 = none ∧ (busy.withFetchWord 8 0x21) = busy := by decide

/-! ### The manual's worked cases -/

/-- 2.12: E_out 37 of head 3 at wedge 17, with COMPENSATED alone. -/
theorem test_wedge_worked_case :
    let t := after (.wedge 500 (wedgeOf 3 17 40000 2600 1400 900 2900 3)) head3
    (headContext t 3).held = 37 ∧ (headContext t 3).lastTrack = 40000 ∧
      t.out.loop = [positionFrame { head := 3, wedge := 17, track := 40000, eOut := 37, flags := { compensated := true } }] := by
  decide +kernel

/-- 2.13: both formulas of the fraction, its clamp, the half step, and the interpolation's floor. -/
theorem test_fraction_worked_cases :
    fraction 512 88 = 300 ∧ fraction (-512) 88 = -300 ∧ fraction 480 (-480) = 240 ∧ fraction 153 512 = 77 ∧
      fraction (-153) 512 = -77 ∧ fraction 512 (-87) = 212 ∧ fraction 512 511 = 511 ∧
      linearize (fun k => if k = 4 then 10 else if k = 5 then -6 else 0) 77 = 77 ∧
      linearize (fun k => if k = 7 then 4 else if k = 8 then -2 else 0) 511 = 509 := by
  decide +kernel

/-- 1.9: a full FIFO drops a FECMD and latches FIFO_DROP; the next answer carries the latch away. -/
theorem test_fecmd_dropped_and_latched :
    let s := { busy with link := { busy.link with fifo := List.replicate 16 [0], frontSending := true } }
    let t := after (.fecmd (opaqueOf 0x31 [7])) s
    t.link.latch = { fifoDrop := true } ∧ readCounter t 6 = 1 ∧
      (after (.get 1 (requestWith 1 1 0 [])) t).link.latch = {} := by
  decide +kernel

/-- 1.9: a MGMT frame with count 2 and length 10 fails the length check. -/
theorem test_get_with_wrong_length :
    let t := after (.get 1 (countedRequest 1 1 2 0 [0])) busy
    t.link.latch = { length := true } ∧ readCounter t 4 = 1 ∧ t.out.answer = [] := by
  decide +kernel

/-- 10.6, request 0x26: a GET past the end of RUNOUT is answered RANGE (4) without values. -/
theorem test_get_past_the_end :
    (after (.get 4 (requestWith 1 4 12286 [0, 0, 0, 0])) busy).out.answer =
      [answerBytes 1 0x11 4 {} false 4 12286 []] := by
  decide +kernel

/-- R105, R149: what the STATE cells and the first two DEFECT slots of `learning` read, written out from the tables. -/
theorem test_state_and_defect_cells :
    ((List.range 16).map fun k => readCell learning .state k) = [2, 12800, 200, 0, 7, 0, 1, 0, 2, 0, 2, 2, 1, 8, 0, 0] ∧
      ((List.range 8).map fun k => readCell learning .defect k) = [0, 5, 2, 287, 0, 0, 0, 0] := by
  decide +kernel

/-- An unknown kind passes through unchanged (R11). -/
theorem test_unknown_kinds_pass :
    let bytes := (opaqueOf 0x60 [1, 2]).bytes 0x60
    (after (.unknownKindUpstream 0 bytes) busy).out.status = [bytes] ∧
      (after (.unknownKindDownstream bytes) busy).link.fifo = [bytes] := by
  decide +kernel

/-- A FESTAT frame enters the STATUS class (R10). -/
theorem test_festat_is_queued :
    (after (.festat (opaqueOf 0x22 [9])) busy).out.status = [[0x22, 1, 9] ++ be 2 (crc16 [0x22, 1, 9]).toNat] := by
  decide +kernel

/-- 3.8, step 2: the first frame of another head takes its settle count to S - 1. -/
theorem test_switch_reloads_the_settle_count :
    let t := after (.wedge 500 (soundWedge 7 31)) head3
    t.activeHead = some 7 ∧ (headContext t 7).settle = 1 := by
  decide +kernel

/-- 3.8, steps 5 and 7: a seek leaves the settle count, its end at the same target loads it. -/
theorem test_hold_ends_a_seek :
    let t := after (.hold (holdOf 7 12900 0 1)) head3
    (headContext t 7).settle = 0 ∧ (headContext t 7).seeking = true ∧
      (headContext (after (.hold (holdOf 7 12900 0 0)) t) 7).settle = 2 := by
  decide +kernel

/-- R57, R86: with S 1, the index frame directly after a HOLD that changes the target leaves the step WAITING, the same frame
after another eligible frame makes it ACTIVE; with S 0 it is ACTIVE at once. -/
theorem test_hold_directly_before_the_index_frame :
    let at' := fun n => ({ waitingStep with settings := { waitingStep.settings with switchSettle := n } } : State)
    let hold := Instr.hold (holdOf 0 101 0 0)
    let index := Instr.wedge 22800 (indexWedge 0)
    (afterAll [hold, index] (at' 1)).plan.sub = some .waiting ∧
      (afterAll [hold, .wedge 22600 (soundWedge 0 63), index]
        { at' 1 with clock := { learning.clock with expected := some { wedge := 63, predicted := 22600, halfWidth := 25 } } }).plan.sub
        = some .active ∧
      (afterAll [hold, index] (at' 0)).plan.sub = some .active := by
  decide +kernel

/-- 4.8: the second index frame gives L 333,340, P 651, r 28, and wedge 1 is predicted for 5,333,992. -/
theorem test_acquisition_worked_case :
    let s := { clock651 with clock := { state := .acquiring, acquisition := some ⟨5000000, 512, true⟩, idleTimer := some 20 } }
    let t := after (.wedge 5333340 (indexWedge 3)) s
    t.clock.state = .locked ∧ t.clock.revLength = 333340 ∧ t.clock.period = 651 ∧ t.clock.remainder = 28 ∧
      t.clock.expected = some { wedge := 1, predicted := 5333992, halfWidth := 81 } := by
  decide +kernel

/-- 4.9, steps 1 to 4: on time, missed, LATE, EARLY. -/
theorem test_disturbed_revolution :
    let s₁ := after (.wedge 2620 (soundWedge 3 4)) clock651
    let s₂ := after .wedgeMissed s₁
    let s₃ := after (.wedge 3400 (soundWedge 3 5)) s₂
    let s₄ := after (.wedge 3800 (soundWedge 3 6)) s₃
    s₁.clock.expected = some { wedge := 5, predicted := 3272, halfWidth := 81 } ∧
      (s₂.clock.state = .coasting ∧ s₂.clock.missed = [5] ∧
        s₂.clock.expected = some { wedge := 6, predicted := 3924, halfWidth := 81 }) ∧
      s₃.clock = s₂.clock ∧
      s₄.clock.expected = some { wedge := 7, predicted := 4576, halfWidth := 81 } ∧ readCounter s₄ 9 = 1 := by
  decide +kernel

/-- 4.10: the fourth closing in a row loses the clock, with a CLOCK_NOTICE of cause 1. -/
theorem test_loss_by_the_loss_limit :
    let t := afterAll [.wedgeMissed, .wedgeMissed, .wedgeMissed, .wedgeMissed] clock651
    t.clock.state = .lost ∧ t.clock.missCount = 0 ∧ readCounter t 10 = 4 ∧
      t.out.report = [reportBytes 1 0 ([2, 1] ++ be 4 333340 ++ be 2 651 ++ be 2 28)] := by
  decide +kernel

/-- R71: an idle timer that runs out in ACQUIRING loses the clock. -/
theorem test_idle_timeout :
    (after .idleTimeout { busy with clock := { state := .acquiring, idleTimer := some 20 } }).clock.state = .lost := by
  decide +kernel

/-- 5.10: the solve of wedges 0, 1 and 2. -/
theorem test_solve_worked_case :
    let s := { learning with
      runout := [(2560, -20), (2561, 5), (2562, 2000)]
      engine := { cells := [(0, ⟨160, 4⟩), (1, ⟨12, 1⟩), (2, ⟨520, 4⟩)] ++ ((List.range 61).map fun k => (k + 3, ⟨0, 4⟩)) } }
    let v := computeSolve 5 { revolutions := 4, passes := 3, gain := 16, limit := 100, fold := true } s
    v.entries.take 4 = [17, 2, 2047, -3] ∧ v.meanFold = 3 ∧ v.updated = 63 ∧ v.thin = 1 ∧ v.saturated = 1 ∧ v.largest = 127 := by
  decide +kernel

/-- 6.7, step 8: the third hit confirms the entry, and 6.9, step 1: a new hit takes the slot of the oldest SUSPECT entry. -/
theorem test_fault_hits_the_table :
    let s := { head3 with defects := [(1, ⟨3, 90, .suspect, 2, 0, false⟩)] }
    (after (.wedge 500 (faultWedge 3 90)) s).defects = [(1, ⟨3, 90, .confirmed, 3, 0, true⟩)] ∧
      Table.find? (after (.wedge 500 (faultWedge 3 200)) { head3 with defects := fullTable }).defects 40 =
        some ⟨3, 200, .suspect, 1, 0, true⟩ := by
  decide +kernel

/-- 6.7, step 12: DEFECT_ADD makes the entry STATIC in its slot; DEFECT_REMOVE takes it out; DEFECT_FLUSH of scope 1 too. -/
theorem test_defect_requests :
    let s := { busy with defects := [(0, ⟨3, 5, .static, 0, 0, false⟩), (1, ⟨3, 90, .confirmed, 3, 0, false⟩)] }
    (after (.defectAdd 0 (requestWith 5 0 0 [3, 90])) s).defects =
        [(0, ⟨3, 5, .static, 0, 0, false⟩), (1, ⟨3, 90, .static, 3, 0, false⟩)] ∧
      (after (.defectRemove 0 (requestWith 6 0 0 [3, 5])) s).defects = [(1, ⟨3, 90, .confirmed, 3, 0, false⟩)] ∧
      (after (.defectFlush 0 (requestWith 7 0 0 [1, -1])) s).defects = [(1, ⟨3, 90, .confirmed, 3, 0, false⟩)] := by
  decide +kernel

/-- 7.5: three beyond frames in a row trip, three within frames in a row release. -/
theorem test_monitor_worked_case :
    let run := fun errors s => errors.foldl (fun s x => (monitorCount 3 40 x s).1) s
    let s₇ := run [100, 160, 170, 154, 200, 210, 220] head3
    (headContext s₇ 3).monitor = .tripped ∧ (headContext s₇ 3).run = 0 ∧
      (headContext (run [50, 60, 300, 40, 30] s₇) 3).run = 2 ∧ (headContext (run [50, 60, 300, 40, 30, 20] s₇) 3).monitor = .clear := by
  decide +kernel

/-- 8.9: PLAN_START enters step 0 WAITING; PLAN_STOP ends the plan. -/
theorem test_plan_start_and_stop :
    let s := { busy with steps := [(0, { phase := .settle, head := 3, limitA := 3, onFail := .stop, timeout := 2000 })] }
    let t := after (.planStart 0 (requestWith 3 0 0 [])) s
    t.plan.state = .running ∧ t.plan.sub = some .waiting ∧ t.plan.waitTimer = some 2000 ∧
      (after (.planStop 0 (requestWith 4 0 0 [])) t).plan.state = .ended := by
  decide +kernel

/-- 8.9, last paragraph: a wait timeout with on-fail STOP ends the plan FAILED. -/
theorem test_wait_timeout_stops_the_plan :
    let s := { waitingStep with steps := [(0, { phase := .learn, onFail := .stop, timeout := 9 })] }
    let t := after .timeoutWait s
    t.plan.state = .ended ∧ t.plan.ended = 1 ∧ t.plan.failed = 1 ∧ t.plan.last = some 0 ∧ readCounter t 23 = 1 := by
  decide +kernel

/-- 9.6, steps 3 and 6: position 1 grants the answer; position 2, its own queue empty, passes to REPORT. -/
theorem test_round_with_passing_turns :
    let s := { busy with out := { busy.out with answer := [[1]], report := [[2]], status := [[3]], round := 1 } }
    let t := after .benchTransmitEnd s
    t.out.sending = some [1] ∧ t.out.round = 2 ∧ (after .benchTransmitEnd t).out.sending = some [2] ∧
      (after .benchTransmitEnd t).out.round = 3 := by
  decide +kernel

/-- R14: the frame leaves the FIFO at the end of its transmission, and the next is begun. -/
theorem test_front_transmit_end :
    let s := { busy with link := { busy.link with fifo := [[1], [2]], frontSending := true } }
    (after .frontTransmitEnd s).link = { busy.link with fifo := [[2]], frontSending := true } := by
  decide +kernel

/-- R140: the refresh timer sets the budget to the report limit. -/
theorem test_budget_refresh :
    (after .budgetRefreshTimerExpiry { busy with out := { busy.out with budget := .left 0 } }).out.budget = .left 8 := by
  decide +kernel

/-- 10.6, request 0x22: fields 1, 2 and 3 of head 7, the burst floor clamped to 8190, status CLAMPED (1). -/
theorem test_set_headrec_clamps :
    let t := after (.setHeadrec (requestWith 2 2 113 [2, 9000, 1])) busy
    (headRec t 7).mode = .both ∧ (headRec t 7).burstFloor = 8190 ∧ (headRec t 7).compEnable = true ∧
      t.out.answer = [answerBytes 2 0x11 1 {} false 2 113 []] := by
  decide +kernel

/-- 10.6, requests 0x23 and 0x25: a SET of settings is DONE; a SET of RUNOUT that reaches a bound head's block is INUSE (3). -/
theorem test_set_settings_and_runout :
    (after (.set 1 (requestWith 2 1 5 [6, 2048])) busy).settings.switchSettle = 6 ∧
      (after (.set 4 (requestWith 2 4 511 [0, 0]))
        { learning with engine := { learning.engine with binding := some { head := 1, step := 0 } } }).out.answer =
        [answerBytes 2 0x11 3 {} false 4 511 []] := by
  decide +kernel

/-- R70: a new W unlocks the clock. -/
theorem test_set_wedges :
    let t := after (.setWedgesPerRevolution (requestWith 2 1 1 [100])) clock651
    t.settings.wedges = 100 ∧ t.clock.state = .unlocked := by
  decide +kernel

/-- R156: a SET of a counter clears it, whatever the value. -/
theorem test_set_counter_clears :
    let s := { busy with alerts := { busy.alerts with counters := [(3, 9), (4, 7)] } }
    readCounter (after (.setCounter (requestWith 2 8 3 [5])) s) 3 = 0 ∧
      readCounter (after (.setCounter (requestWith 2 8 3 [5])) s) 4 = 7 := by
  decide +kernel

/-- 11.4, steps 5 and 6: ALERT_CLEAR of 3072 leaves CLOCK_LOCKED; the mask set to 0 reveals it. -/
theorem test_alert_requests :
    let s := { busy with alerts := { busy.alerts with flags := 0xC02 } }
    let t := after (.alertClear 0 (requestWith 8 0 0 [3072])) s
    t.alerts.flags = 2 ∧ attention t = false ∧ attention (after (.setAlertMask (requestWith 2 9 1 [0])) t) = true := by
  decide +kernel

/-- R151: RUNOUT_ZERO of head 3 leaves the other heads' entries. -/
theorem test_runout_zero :
    (after (.runoutZero 0 (requestWith 9 0 0 [3])) { busy with runout := [(1535, 4), (1553, -12), (2048, 6)] }).runout =
      [(1535, 4), (2048, 6)] := by
  decide +kernel

/-- 10.5: RESTART keeps a STATIC entry and the step records, and clears the flags. -/
theorem test_restart :
    let s := { learning with
      defects := [(0, ⟨3, 5, .static, 0, 0, true⟩), (1, ⟨3, 90, .confirmed, 3, 0, false⟩)]
      alerts := { busy.alerts with flags := 1 } }
    let t := after (.restart 0 (requestWith 10 0 0 [])) s
    t.defects = [(0, ⟨3, 5, .static, 0, 0, false⟩)] ∧ t.steps = s.steps ∧ t.alerts.flags = 0 ∧ t.plan = {} := by
  decide +kernel

/-- R144: an unknown request code is answered UNKNOWN (7). -/
theorem test_unknown_request :
    (after (.unknownRequest 11 1 (requestWith 11 1 0 [])) busy).out.answer =
      [answerBytes 11 0x11 7 {} false 1 0 []] := by
  decide +kernel

/-- Power-on reset returns the part to its power-on state. -/
theorem test_power_on_reset : after .powerOnReset { learning with pending := [.idleTimeout] } =
    { State.reset with pending := [.idleTimeout] } := by
  decide +kernel

/-! ### Witnesses: states and operands that meet the hypotheses of the statements, clause by clause -/

theorem arrives_of {a : Nat} {f : WedgeFrame} {s : State}
    (h : (linkCheck .front f.bytes == none && !windowPast a s.clock) = true) : Arrives a f s := by
  simp only [Bool.and_eq_true, beq_iff_eq, Bool.not_eq_true'] at h
  exact ⟨h.1, h.2⟩

theorem admitted_of {c : Instr} {code object : Byte} {r : Request} {s : State}
    (h : (requestOf c == some (code, object, r) && linkCheck .bench (r.bytes code object) == none &&
      decide (s.out.answer.length < 4)) = true) : Admitted c code object r s := by
  simp only [Bool.and_eq_true, beq_iff_eq, decide_eq_true_eq] at h
  exact ⟨h.1.1, h.1.2, h.2⟩

theorem settings_held : SettingsHeld learning.settings := by
  constructor <;> decide

/-- DefectsHeld, from what can be computed. -/
theorem defects_held {s : State} (hs : SettingsHeld s.settings)
    (h : Table.wf 256 s.defects = true ∧
      (∀ c ∈ s.defects, c.2.head ≤ 23 ∧ c.2.wedge ≤ 511 ∧ c.2.hits ≤ 15 ∧ c.2.quiet ≤ 255) ∧
      s.defects.Pairwise fun c d => ¬(c.2.head = d.2.head ∧ c.2.wedge = d.2.wedge)) : DefectsHeld s :=
  ⟨hs, h.1, fun c m => ⟨(h.2.1 c m).1, (h.2.1 c m).2.1, (h.2.1 c m).2.2.1, (h.2.1 c m).2.2.2⟩, h.2.2⟩

/-- PlanHeld of a part whose plan runs step `n`, from what can be computed. -/
theorem plan_held {s : State} (n : Nat)
    (h : (s.plan.state = .running ∧ s.plan.current = some n ∧ s.plan.sub.isSome = true ∧ n ≤ 31 ∧
        (planStep s n).phase ≠ .none ∧ s.plan.ended = n ∧ s.plan.failed ≤ n) ∧
      (s.plan.waitTimer = if s.plan.sub = some .waiting ∧ (planStep s n).timeout ≠ 0 then some (planStep s n).timeout else none) ∧
      (s.plan.sub = some .active →
        s.activeHead = some (planStep s n).head ∧ s.clock.state.running = true ∧
        (headContext s (planStep s n).head).targetValid = true ∧ (headContext s (planStep s n).head).seeking = false ∧
        (headContext s (planStep s n).head).settle = 0 ∧ (headContext s (planStep s n).head).retargeted = false ∧
        (planStep s n).head < s.settings.headCount ∧
        (headRec s (planStep s n).head).enabled = true) ∧
      (s.engine.pass = .unbound ↔ s.engine.binding = none) ∧
      (∀ b ∈ s.engine.binding, n = b.step ∧ (planStep s b.step).phase = .learn ∧ (planStep s b.step).head = b.head) ∧
      (s.engine.pass = .accumulate → s.plan.sub = some .active) ∧
      (s.plan.sub = some .waiting → s.plan.regs = {})) : PlanHeld s := by
  obtain ⟨⟨h₁, h₂, h₃, h₄, h₅, h₆, h₇⟩, h₈, h₉, h₁₀, h₁₁, h₁₂, h₁₃⟩ := h
  have current : ∀ k, s.plan.current = some k → k = n := fun k h => Option.some.inj (h.symm.trans h₂)
  refine
    { running := by simp [h₁, h₂]
      sub := by simp [h₃, h₂]
      current := fun k h => current k h ▸ ⟨h₄, h₅, h₆⟩
      tallies := ⟨h₆ ▸ h₇, by omega⟩
      waiting := fun k h w => ?_
      cleared := h₁₃
      noTimer := fun w => ?_
      measuring := fun k h w => ?_
      unbound := h₁₀
      bound := fun b h => ⟨h₂.trans (congrArg some (h₁₁ b h).1), (h₁₁ b h).2⟩
      accumulating := h₁₂ }
  · cases current k h
    rw [h₈]
    by_cases z : (planStep s n).timeout = 0 <;> simp [w, z]
  · rw [h₈]
    simp [w]
  · cases current k h
    obtain ⟨a, b, c, d, e, f, g, i⟩ := h₉ w
    exact ⟨a, b, c, d, e, f, g, i⟩

theorem witness_StepRunsTheFrontCommand :
    learning.pending = [] ∧ ({ learning with pending := [.idleTimeout] } : State).pending = .idleTimeout :: [] := by decide

/-- Both kinds that may arrive as passengers. -/
theorem witness_TypedFramesAreTakenByLengthAndCrc :
    (Port.front = .front ∧ (0x22 : Byte) = 0x22) ∧ (Port.bench = .bench ∧ (0x31 : Byte) = 0x31) := by decide

theorem witness_FramesThePartBuildsAreMisdirected :
    (List.replicate 20 (0 : Byte)).length ≤ 20 ∧ (Reply.mk .done (List.replicate 13 0)).values.length ≤ 13 := by decide

theorem witness_TheFrameDecidesTheCommand :
    requestOf (.setHeadrec (requestWith 2 2 0 [1])) = some (2, 2, requestWith 2 2 0 [1]) ∧
      requestOf (.unknownRequest 255 9 (requestWith 255 9 0 [])) = some (255, 9, requestWith 255 9 0 []) := by
  decide +kernel

/-- One frame for each cause; the mask at reset hides CLOCK_LOCKED alone. -/
theorem witness_FailedFrontFramesAreOnlyCounted :
    let spoiledWedge : WedgeFrame := { soundWedge 3 4 with crc := (soundWedge 3 4).crc ^^^ 1 }
    (frontFrame (.wedge 5 spoiledWedge) = some spoiledWedge.bytes ∧ linkCheck .front spoiledWedge.bytes = some .crc) ∧
    linkCheck .front ((opaqueOf 0x22 []).bytes 0x22) = some .length ∧
    linkCheck .front (holdOf 3 0 0 0).bytes = some .misdirected ∧ learning.alerts.mask.getLsbD 7 = false := by
  decide +kernel

theorem witness_FailedBenchFramesAreCountedAndLatched :
    let f := spoiled (opaqueOf 0x31 [1])
    (benchFrame (.fecmd f) = some (f.bytes 0x31) ∧ linkCheck .bench (f.bytes 0x31) = some .crc) ∧
    (benchFrame (.get 1 (countedRequest 1 1 2 0 [0])) = some ((countedRequest 1 1 2 0 [0]).bytes 1 1) ∧
      linkCheck .bench ((countedRequest 1 1 2 0 [0]).bytes 1 1) = some .length) ∧
    linkCheck .bench (soundWedge 3 4).bytes = some .misdirected := by
  decide +kernel

/-- A STATUS queue of 15 and of 16, and an idle transmitter. -/
theorem witness_StatusTrafficIsPassedThrough :
    let f := opaqueOf 0x22 [1]
    let g := (opaqueOf 0x60 []).bytes 0x60
    let q := fun n => ({ busy with out := { busy.out with status := List.replicate n [0] } } : State)
    linkCheck .front (f.bytes 0x22) = none ∧ unknownKind (frameKind g) = true ∧
    linkCheck .front ((opaqueOf 0x60 [2]).bytes 0x60) = none ∧
    ((q 15).out.status.length < 16 ∧ (q 15).out.sending.isSome = true) ∧ 16 ≤ (q 16).out.status.length ∧
    (State.reset.out.sending = none ∧ State.reset.out.loop = [] ∧ State.reset.out.answer = [] ∧
      State.reset.out.report = [] ∧ State.reset.out.status = [] ∧ State.reset.out.round ≤ 6) := by
  decide +kernel

theorem witness_DownstreamTrafficPassesTheFifo :
    let q := fun n => ({ busy with link := { fifo := List.replicate n [0], frontSending := true } } : State)
    linkCheck .bench ((opaqueOf 0x31 [1]).bytes 0x31) = none ∧
    (unknownKind (frameKind ((opaqueOf 0x60 [2]).bytes 0x60)) = true ∧
      linkCheck .bench ((opaqueOf 0x60 [2]).bytes 0x60) = none) ∧
    (q 15).link.fifo.length < 16 ∧ 16 ≤ (q 16).link.fifo.length ∧ (q 15).link.frontSending = true ∧
    busy.link.frontSending = false := by
  decide +kernel

/-- A LOOP frame waiting; a passing turn at position 6; nothing waiting; an idle transmitter; a round of seven. -/
theorem witness_TheRoundGrantsByItsPositions :
    let s := fun (l a r t : Nat) => ({ busy with out := { busy.out with
      loop := List.replicate l [1], answer := List.replicate a [2], report := List.replicate r [3]
      status := List.replicate t [4], round := 6 } } : State)
    ((s 1 0 0 0).out.round ≤ 6 ∧ (s 1 0 0 0).out.loop = [1] :: [] ∧ (s 1 0 0 0).out.sending.isSome = true) ∧
    ((s 0 1 0 0).out.loop = [] ∧ ([classAt (s 0 1 0 0).out.round, .answer, .report, .status].find? fun c =>
      decide (waiting (s 0 1 0 0).out c ≠ [])) = some .answer) ∧
    (waiting (s 0 0 0 0).out .answer = [] ∧ waiting (s 0 0 0 0).out .report = [] ∧ waiting (s 0 0 0 0).out .status = []) ∧
    State.reset.out.sending = none ∧
    (4 ≤ (s 0 4 2 1).out.answer.length ∧ 2 ≤ (s 0 4 2 1).out.report.length ∧ 1 ≤ (s 0 4 2 1).out.status.length) := by
  decide +kernel

theorem witness_RefreshTimerExpirySetsTheBudget :
    busy.out.refreshTimer.isSome = true ∧ learning.out.refreshTimer = none := by decide

/-- A absent and D absent; B absent and C absent. -/
theorem witness_RatiosAreRounded :
    let r := readWedge (wedgeOf 3 4 100 0 4095 4095 0 3)
    let t := readWedge (wedgeOf 3 4 100 256 0 0 256 3)
    (faulty 256 r = false ∧ r.a = 0 ∧ r.d = 0) ∧ (faulty 256 t = false ∧ t.b = 0 ∧ t.c = 0) := by
  decide +kernel

/-- Equal magnitudes; the second formula on either side; the points and fractions at the ends of their ranges. -/
theorem witness_FractionAndLinearization :
    (|(-512 : Int)| ≤ |(512 : Int)|) ∧ (|(511 : Int)| < |(512 : Int)| ∧ (0 : Int) < 512) ∧
    (|(0 : Int)| < |(-512 : Int)| ∧ (-512 : Int) < 0) ∧
    (∀ k ≤ 8, -128 ≤ (if k = 8 then 127 else -128 : Int) ∧ (if k = 8 then 127 else -128 : Int) ≤ 127) ∧
    (-512 ≤ (-512 : Int) ∧ (511 : Int) ≤ 511) := by
  decide

/-- A frame that gives a sample and shows all of an accumulating pass; an index frame that meets a pending solve. -/
theorem witness_DemodulatedWedgeUpdatesItsHead :
    let f := soundWedge 0 1
    let r := readWedge f
    let s := { learning with clock := { learning.clock with expected := some { wedge := 1, predicted := 10200, halfWidth := 25 } } }
    (Arrives 10200 f s ∧ eligible s r.head r.wedge = true ∧ r.index = false ∧ knownDefect s r.head r.wedge = false ∧
      faulty (headRec s r.head).burstFloor r = false ∧ s.engine.pass = .accumulate ∧ boundTo s r.head = true ∧
      sampleable 10200 r s (after (.wedge 10200 f) s) = true ∧ (engineCell s 1).count < cellLimit s) ∧
    (Arrives 22800 (indexWedge 0) solving ∧ eligible solving 0 0 = true ∧ DefectsHeld solving ∧
      knownDefect solving 0 0 = false ∧ faulty (headRec solving 0).burstFloor (readWedge (indexWedge 0)) = false) :=
  ⟨⟨arrives_of (by decide +kernel), by decide +kernel⟩,
    arrives_of (by decide +kernel), by decide +kernel, defects_held settings_held (by decide +kernel), by decide +kernel, by decide +kernel⟩

/-- Held for FAULT; held for a STATIC entry; an index frame held for FAULT. -/
theorem witness_HeldWedgeKeepsTheHeldValue :
    let f := faultWedge 0 1
    let g := soundWedge 20 7
    let i := wedgeOf 0 0 100 1000 1000 1000 1000 5
    let s := { learning with defects := fullTable }
    (Arrives 500 f s ∧ eligible s 0 1 = true ∧ (readWedge f).index = false ∧
      faulty (headRec s 0).burstFloor (readWedge f) = true ∧ (headRec s 0).defectLearn = false) ∧
    (Arrives 500 g s ∧ eligible s 20 7 = true ∧ (readWedge g).index = false ∧ knownDefect s 20 7 = true ∧
      faulty (headRec s 20).burstFloor (readWedge g) = false) ∧
    (Arrives 22800 i learning ∧ eligible learning 0 0 = true ∧ DefectsHeld learning ∧
      faulty (headRec learning 0).burstFloor (readWedge i) = true) :=
  ⟨⟨arrives_of (by decide +kernel), by decide +kernel⟩, ⟨arrives_of (by decide +kernel), by decide +kernel⟩,
    arrives_of (by decide +kernel), by decide +kernel, defects_held settings_held (by decide +kernel), by decide +kernel⟩

/-- A frame that finds a queue of 6; an index frame of a head in BOTH mode that finds a queue of 8. -/
theorem witness_EligibleWedgeReachesTheLoopClass :
    let s := { head3 with out := { head3.out with loop := List.replicate 6 [1] } }
    let u := { learning with headRecs := [(0, { mode := .both })], out := { learning.out with loop := List.replicate 8 [1] } }
    let f := soundWedge 3 17
    (Arrives 500 f s ∧ eligible s 3 17 = true ∧ (readWedge f).index = false ∧ s.out.sending.isSome = true ∧
      s.out.loop.length ≤ 8) ∧
    (Arrives 22800 (indexWedge 0) u ∧ eligible u 0 0 = true ∧ DefectsHeld u ∧ u.out.sending.isSome = true ∧
      u.out.loop.length = 8) :=
  ⟨⟨arrives_of (by decide +kernel), by decide +kernel⟩,
    arrives_of (by decide +kernel), by decide +kernel, defects_held settings_held (by decide +kernel), by decide +kernel, by decide +kernel⟩

/-- A head at H, no slip with it, in a part that PlanHeld describes; an index frame of it in LOST; a wedge at W, with a full LOOP
queue. -/
theorem witness_IneligibleWedgeIsOnlyForwarded :
    let s := { learning with out := { learning.out with loop := List.replicate 8 [1] } }
    let u := { learning with clock := { learning.clock with expected := some { wedge := 63, predicted := 22600, halfWidth := 25 } } }
    (Arrives 22600 (soundWedge 24 63) u ∧ eligible u 24 63 = false ∧ u.settings.headCount ≤ 24 ∧
      63 < u.settings.wedges ∧ u.out.sending.isSome = true ∧ u.out.loop.length < 8 ∧
      (readWedge (soundWedge 24 63)).index = false ∧ rulingOn 22600 (readWedge (soundWedge 24 63)) u ≠ .slip) ∧ PlanHeld u ∧
    (Arrives 500 (indexWedge 24) head3 ∧ eligible head3 24 0 = false ∧ head3.clock.state ≠ .locked ∧
      head3.clock.state ≠ .coasting) ∧
    (Arrives 500 (soundWedge 23 64) s ∧ eligible s 23 64 = false ∧ s.settings.wedges ≤ 64 ∧ ¬s.out.loop.length < 8) :=
  ⟨⟨arrives_of (by decide +kernel), by decide +kernel⟩, plan_held 0 (by decide +kernel),
    ⟨arrives_of (by decide +kernel), by decide +kernel⟩, ⟨arrives_of (by decide +kernel), by decide +kernel⟩⟩

theorem witness_OffsetWritesMoveTheEffectiveOffset :
    let s := { busy with headRecs := [(0, { ownOffset := 8000, offsetValid := true }), (5, { source := .track, offsetDiff := 300 })] }
    tracking s 5 = true ∧ tracking s 0 = false := by decide

/-- The last head below H; the first at H; 15 and 16 frames in the FIFO; a target that stays; a head that no one measures. -/
theorem witness_HoldSetsTheTarget :
    let q := fun n => ({ learning with link := { fifo := List.replicate n [0], frontSending := true } } : State)
    (linkCheck .bench (holdOf 23 0 0 1).bytes = none ∧ 23 < (q 15).settings.headCount ∧ (q 15).link.fifo.length < 16 ∧
      boundTo (q 15) 23 = false ∧ stepHead (q 15) ≠ some 23) ∧
    (linkCheck .bench (holdOf 24 0 0 0).bytes = none ∧ (q 16).settings.headCount ≤ 24 ∧ 16 ≤ (q 16).link.fifo.length) ∧
    ((holdOf 0 100 0 0).flags.getLsbD 0 = false ∧ (headContext learning 0).targetValid = true ∧
      (headContext learning 0).targetTrack = 100 ∧ (headContext learning 0).targetOffset = 0) := by
  decide +kernel

/-- A HOLD that moves the target; a frame of head 1, away from head 0; a frame of a wedge neither expected nor missed. -/
theorem witness_NoticesDiscardTheMeasurement :
    let f := holdOf 0 101 0 0
    let g := soundWedge 1 1
    let i := soundWedge 0 5
    (linkCheck .bench f.bytes = none ∧ 0 < learning.settings.headCount ∧
      (headContext learning 0).targetTrack ≠ f.track.toNat % 2 ^ 20) ∧
    (boundTo learning 0 = true ∧ learning.engine.pass = .accumulate ∧ learning.plan.current = some 0 ∧
      learning.plan.sub = some .active ∧ (planStep learning 0).head = 0) ∧
    (Arrives 10200 g learning ∧ eligible learning 1 1 = true ∧ learning.activeHead = some 0) ∧
    (Arrives 10200 i learning ∧ 5 < learning.settings.wedges ∧ rulingOn 10200 (readWedge i) learning = .slip) ∧
    (boundTo solving 0 = true ∧ solving.engine.pass = .solve ∧ (readWedge i).index = false) :=
  ⟨by decide +kernel, by decide +kernel, ⟨arrives_of (by decide +kernel), by decide +kernel⟩,
    ⟨arrives_of (by decide +kernel), by decide +kernel⟩, by decide +kernel⟩

theorem witness_PeriodsSumToTheRevolution :
    clock651.clock.period * 512 + clock651.clock.remainder = clock651.clock.revLength ∧ clock651.clock.remainder < 512 := by
  decide

/-- Measurements of P 200 and P 65535, and one of P 199, with W 64; an index frame in UNLOCKED, LOST and unstarted ACQUIRING;
frames without INDEX at 512 and 513 counted, unstarted, and in UNLOCKED. -/
theorem witness_LockMeasuresTheRevolution :
    let q : Acquisition := { start := 1000, frames := 64, good := true }
    let at' := fun c => ({ busy with settings := { wedges := 64 }, clock := c } : State)
    let s := at' { state := .acquiring, acquisition := some q, idleTimer := some 20 }
    let full := at' { state := .acquiring, acquisition := some { q with frames := 513 }, idleTimer := some 20 }
    (Arrives 13800 (indexWedge 3) s ∧
      (0 < s.settings.wedges ∧ 64 ≤ s.settings.wedges ∧ (readWedge (indexWedge 3)).index = true ∧
        s.clock.state = .acquiring ∧ s.clock.acquisition = some q ∧ s.out.sending.isSome = true ∧ s.out.report.length < 32) ∧
      (q.good = true ∧ q.frames = s.settings.wedges ∧ 200 ≤ (13800 - q.start) / s.settings.wedges) ∧
      (4195303 - q.start) / s.settings.wedges ≤ 65535 ∧ ¬200 ≤ (13799 - q.start) / s.settings.wedges) ∧
    (Arrives 9 (indexWedge 3) (at' {}) ∧ Arrives 9 (indexWedge 3) (at' { state := .lost }) ∧
      Arrives 9 (indexWedge 3) (at' { state := .acquiring, idleTimer := some 20 })) ∧
    (Arrives 9 (soundWedge 3 63) full ∧ Arrives 9 (soundWedge 3 63) s ∧ Arrives 9 (soundWedge 3 63) (at' {}) ∧
      Arrives 9 (soundWedge 3 63) (at' { state := .acquiring, idleTimer := some 20 })) ∧
    (readWedge (soundWedge 3 63)).index = false ∧ (readWedge (soundWedge 3 63)).wedge < s.settings.wedges ∧
    (readWedge (soundWedge 3 63)).wedge ≠ q.frames :=
  ⟨⟨arrives_of (by decide +kernel), by decide +kernel⟩,
    ⟨arrives_of (by decide +kernel), arrives_of (by decide +kernel), arrives_of (by decide +kernel)⟩,
    ⟨arrives_of (by decide +kernel), arrives_of (by decide +kernel), arrives_of (by decide +kernel),
      arrives_of (by decide +kernel)⟩, by decide +kernel⟩

/-- Wedge 4 at the edge of its window and just before it; a wedge of the missed list; a slip; index frames that come before
their window, late and as a slip; INDEX at an expected wedge other than 0. -/
theorem witness_FramesAreRuledAgainstTheExpectation :
    let e : Expectation := { wedge := 4, predicted := 2608, halfWidth := 81 }
    let z : Expectation := { wedge := 0, predicted := 22800, halfWidth := 25 }
    let s := { clock651 with clock := { clock651.clock with state := .coasting, missCount := 1, missed := [3] } }
    let l := { clock651 with clock := { clock651.clock with state := .coasting, missCount := 1, missed := [0] } }
    let odd := wedgeOf 3 4 100 1000 1000 1000 1000 7
    (Arrives 2689 (soundWedge 3 4) clock651 ∧ Arrives 2526 (soundWedge 3 4) clock651 ∧ Arrives 2500 (soundWedge 3 3) s ∧
      Arrives 2600 (soundWedge 3 5) s) ∧
    (clock651.clock.state = .locked ∧ s.clock.state = .coasting ∧ clock651.clock.expected = some e ∧ s.clock.expected = some e ∧
      4 < clock651.settings.wedges ∧ (readWedge (soundWedge 3 4)).index = false ∧ (readWedge (soundWedge 3 4)).wedge = e.wedge ∧
      e.predicted ≤ 2527 + e.halfWidth ∧ 2526 + e.halfWidth < e.predicted ∧ 3 ∈ s.clock.missed ∧ 5 ∉ s.clock.missed) ∧
    (Arrives 22774 (indexWedge 0) learning ∧ Arrives 2500 (indexWedge 3) l ∧ Arrives 2600 (indexWedge 3) clock651 ∧
      Arrives 2600 odd clock651) ∧
    (learning.clock.expected = some z ∧ (readWedge (indexWedge 0)).index = true ∧ (readWedge (indexWedge 0)).wedge = z.wedge ∧
      22774 + z.halfWidth < z.predicted ∧ l.clock.expected = some e ∧ (readWedge (indexWedge 3)).wedge ≠ e.wedge ∧
      0 ∈ l.clock.missed ∧ 0 ∉ clock651.clock.missed ∧ (readWedge odd).wedge = e.wedge ∧ (readWedge odd).index = true) :=
  ⟨⟨arrives_of (by decide +kernel), arrives_of (by decide +kernel), arrives_of (by decide +kernel),
    arrives_of (by decide +kernel)⟩, by decide +kernel,
    ⟨arrives_of (by decide +kernel), arrives_of (by decide +kernel), arrives_of (by decide +kernel),
    arrives_of (by decide +kernel)⟩, by decide +kernel⟩

/-- A revolution measured anew at P 200, and one whose P would be 199. -/
theorem witness_OnTimeIndexFrameRemeasures :
    let e : Expectation := { wedge := 0, predicted := 22800, halfWidth := 25 }
    (Arrives 22800 (indexWedge 0) learning ∧ Arrives 22799 (indexWedge 0) learning) ∧
    ((readWedge (indexWedge 0)).wedge = 0 ∧ (readWedge (indexWedge 0)).index = true ∧ 64 ≤ learning.settings.wedges ∧
      learning.clock.state = .locked ∧ learning.clock.expected = some e ∧ e.wedge = 0 ∧ e.predicted ≤ 22799 + e.halfWidth ∧
      learning.clock.lastIndex = some 10000 ∧ 200 ≤ (22800 - 10000) / learning.settings.wedges ∧
      ¬200 ≤ (22799 - 10000) / learning.settings.wedges) :=
  ⟨⟨arrives_of (by decide +kernel), arrives_of (by decide +kernel)⟩, by decide +kernel⟩

theorem witness_StampCountsRevolutionEvents :
    Arrives 22800 (indexWedge 0) learning ∧ (readWedge (indexWedge 0)).index = true ∧ learning.clock.state = .locked :=
  ⟨arrives_of (by decide +kernel), by decide +kernel⟩

/-- No wedge expected; a first miss of a CORRECTED head, the LOOP queue with room and full; the miss that reaches the limit,
with nothing bound and while an ACTIVE step accumulates; a RAW head; a frame that comes after its window has closed. -/
theorem witness_MissedWedgeCoastsOrLosesTheClock :
    let e : Expectation := { wedge := 4, predicted := 2608, halfWidth := 81 }
    let s := { clock651 with clock := { clock651.clock with state := .coasting, missCount := 3, missed := [1, 2, 3] } }
    let full := { clock651 with out := { clock651.out with loop := List.replicate 8 [0] } }
    let l := { learning with settings := { learning.settings with lossLimit := 1 } }
    busy.clock.expected = none ∧
    (clock651.clock.expected = some e ∧ clock651.clock.state = .locked ∧ clock651.out.sending.isSome = true ∧
      clock651.clock.missCount + 1 < clock651.settings.lossLimit) ∧
    (s.clock.state = .coasting ∧ s.settings.lossLimit ≤ s.clock.missCount + 1 ∧ s.out.report.length < 32 ∧
      s.engine.pass ≠ .accumulate ∧ s.plan.sub ≠ some .active) ∧
    (l.clock.expected.isSome = true ∧ l.clock.state = .locked ∧ l.settings.lossLimit ≤ l.clock.missCount + 1 ∧
      l.engine.pass = .accumulate ∧ l.plan.current = some 0 ∧ l.plan.sub = some .active) ∧
    (clock651.activeHead = some 3 ∧ (headRec clock651 3).mode ≠ .raw ∧ clock651.out.loop.length < 8 ∧
      full.activeHead = some 3 ∧ ¬full.out.loop.length < 8) ∧
    (learning.activeHead = some 0 ∧ (headRec learning 0).mode = .raw) ∧
    (linkCheck .front (soundWedge 3 4).bytes = none ∧ windowPast 2690 clock651.clock = true ∧ clock651.settings.lossLimit ≤ 15) := by
  decide +kernel

/-- From LOCKED, accumulating under an ACTIVE step and without one; from ACQUIRING. -/
theorem witness_IdleTimeoutLosesTheClock :
    let s : State := { busy with clock := { state := .acquiring, idleTimer := some 20 } }
    busy.clock.idleTimer = none ∧
    (learning.clock.idleTimer.isSome = true ∧ learning.out.sending.isSome = true ∧ learning.out.report.length < 32 ∧
      learning.clock.state = .locked ∧ learning.engine.pass = .accumulate ∧ learning.plan.current = some 0 ∧
      learning.plan.sub = some .active) ∧
    (solving.engine.pass ≠ .accumulate ∧ waitingStep.plan.sub ≠ some .active) ∧
    (s.clock.idleTimer.isSome = true ∧ s.clock.state = .acquiring) := by
  decide

/-- The engine unbound, its step ACTIVE, and WAITING until this frame; a pass that waits in READY; a revolution that is not the last of its pass, and one that is. -/
theorem witness_PassesBeginAndEndAtRevolutionEvents :
    let f := indexWedge 0
    let r := readWedge f
    let q : PassParams := { revolutions := 2, passes := 3, gain := 16, limit := 0, fold := false }
    let ready := { learning with engine := { learning.engine with cells := [], revs := 0, pass := .ready } }
    let first := { learning with engine := { learning.engine with revs := 0 } }
    Arrives 22800 f learning ∧
    (eligible learning r.head r.wedge = true ∧ r.index = true ∧ learning.activeHead = some r.head ∧
      learning.clock.state = .locked ∧ rulingOn 22800 r learning ≠ .slip ∧ learning.plan.current = some 0 ∧
      learning.plan.sub = some .active ∧ (planStep learning 0).phase = .learn ∧ (planStep learning 0).head = r.head) ∧
    DefectsHeld learning ∧
    (learning.engine.pass = .accumulate ∧ learning.engine.binding = some { head := 0, step := 0 } ∧
      learning.engine.params = some q ∧ q.revolutions ≤ learning.engine.revs + 1 ∧
      first.engine.revs + 1 < q.revolutions ∧ sampleable 22800 r first (after (.wedge 22800 f) first) = true) ∧
    (ready.engine.pass = .ready ∧ boundTo ready r.head = true ∧ ready.engine.params = some q ∧ 1 ≤ q.revolutions) ∧
    (({ learning with engine := {} } : State).engine.pass = .unbound ∧ waitingStep.engine.pass = .unbound ∧
      waitingStep.plan.sub = some .waiting ∧ becomesActive 22800 r waitingStep = true) :=
  ⟨arrives_of (by decide +kernel), by decide +kernel, defects_held settings_held (by decide +kernel), by decide +kernel⟩

/-- An updated wedge and a thin one, with fold and without. -/
theorem witness_SolveComputesEveryEntry :
    let p : PassParams := { revolutions := 2, passes := 3, gain := 16, limit := 0, fold := true }
    1 ≤ p.revolutions ∧ 1 ≤ learning.settings.wedges ∧ decide (p.revolutions ≤ 2 * (engineCell learning 1).count) = true ∧
      decide (p.revolutions ≤ 2 * (engineCell learning 0).count) = false ∧ p.fold = true ∧ { p with fold := false }.fold = false := by
  decide

/-- `solving` with the pass parameters `p` and the sub-state, without defects. -/
def solvingWith (p : PassParams) (sub : SubState) : State :=
  { solving with
    engine := { solving.engine with params := some p }
    defects := []
    plan := { solving.plan with sub := some sub, waitTimer := if sub = .waiting then some 9 else none } }

/-- A pass that is neither CONVERGED nor the last, with its step ACTIVE, and WAITING at a frame that makes it ACTIVE; with fold and
without; one that converges at its limit, and the last. -/
theorem witness_ApplyReplacesTheEntries :
    let f := indexWedge 0
    let v : PendingSolve :=
      { entries := List.replicate 64 5, meanFold := 0, updated := 64, thin := 0, saturated := 0, largest := 5 }
    let p : PassParams := { revolutions := 2, passes := 3, gain := 16, limit := 4, fold := true }
    let u := solvingWith p .active
    let w := solvingWith { p with limit := 0, fold := false } .waiting
    (Arrives 22800 f u ∧ eligible u 0 0 = true ∧ (readWedge f).index = true ∧ u.engine.pass = .solve ∧
      u.engine.binding = some { head := 0, step := 0 } ∧ u.engine.params = some p ∧
      u.engine.pendingSolve = some v ∧ v.entries.length = u.settings.wedges ∧ u.settings.wedges ≤ 512) ∧
    (PlanHeld u ∧ PlanHeld w ∧ DefectsHeld u ∧ DefectsHeld w) ∧
    (u.out.sending.isSome = true ∧ u.out.report.length ≤ 29 ∧ (∀ c ∈ u.defects, c.2.head = 0 → c.2.state ≠ .suspect)) ∧
    (¬(0 < p.limit ∧ 0 < v.updated ∧ v.largest ≤ p.limit) ∧ u.engine.passNumber ≠ p.passes ∧ 1 ≤ p.revolutions ∧
      rulingOn 22800 (readWedge f) u ≠ .slip ∧ becomesActive 22800 (readWedge f) w = true) ∧
    (v.largest ≤ 5 ∧ u.engine.passNumber = 2) :=
  ⟨⟨arrives_of (by decide +kernel), by decide +kernel⟩,
    ⟨plan_held 0 (by decide +kernel), plan_held 0 (by decide +kernel), defects_held settings_held (by decide +kernel),
      defects_held settings_held (by decide +kernel)⟩, by decide +kernel⟩

/-- An accumulating pass; a pending solve, with a frame of the bound head that is no index frame, and a command of another port. -/
theorem witness_BoundEntriesChangeOnlyByTheApply :
    let c := Instr.wedge 500 (soundWedge 0 2)
    (boundTo learning 0 = true ∧ 511 < 512 ∧ learning.engine.pass ≠ .solve ∧ Instr.idleTimeout ≠ .powerOnReset ∧
      exec .idleTimeout learning = .next (after .idleTimeout learning)) ∧
    (boundTo solving 0 = true ∧ solving.engine.pass = .solve ∧ ¬BringsIndexFrame c 0 solving ∧
      ¬BringsIndexFrame .idleTimeout 0 solving ∧ exec c solving = .next (after c solving)) :=
  ⟨⟨by decide, by decide, by decide, by decide, rfl⟩, by decide, by decide,
    fun ⟨_, h, _, _, i, _⟩ => by cases h; exact absurd i (by decide +kernel), fun ⟨_, h, _⟩ => (nomatch h), rfl⟩

/-- The frame after the index frame gives a sample. -/
theorem witness_SamplesComeOnlyUnderALockedClock :
    exec (.wedge 500 (soundWedge 0 2)) learning = .next (after (.wedge 500 (soundWedge 0 2)) learning) := rfl

/-- An entry found; the lowest empty slot; a full table, with the lower of two equal SUSPECT entries. -/
theorem witness_DefectAddMakesAStaticEntry :
    let q := requestWith 5 0 0 [23, 511]
    let s : State := { learning with defects := [(0, ⟨23, 511, .suspect, 1, 3, false⟩)] }
    let e : DefectEntry := ⟨20, 40, .suspect, 1, 12, false⟩
    let full : State := { learning with defects := fullTable }
    Admitted (.defectAdd 0 q) 5 0 q learning ∧
    (q.count = 2 ∧ (q.values.getD 0 0).toInt = (23 : Nat) ∧ (q.values.getD 1 0).toInt = (511 : Nat)) ∧
    (Table.wf 256 s.defects = true ∧ findDefect s.defects 23 511 = some (0, ⟨23, 511, .suspect, 1, 3, false⟩)) ∧
    (Table.wf 256 learning.defects = true ∧ Unlisted learning.defects 23 511 ∧ LowestEmpty learning.defects 1) ∧
    (Table.wf 256 full.defects = true ∧ Unlisted full.defects 23 511 ∧ Full full.defects ∧ Oldest full.defects 40 e) := by
  refine ⟨admitted_of (by decide +kernel), by decide +kernel, by decide +kernel, ?_, ?_⟩
  · unfold Unlisted LowestEmpty; decide +kernel
  · unfold Unlisted Full Oldest; decide +kernel

theorem witness_DefectRemoveAndFlushTakeOutTheNamedEntries :
    let q := requestWith 6 0 0 [23, 511]
    let f := requestWith 7 0 0 [3, -1]
    Admitted (.defectRemove 0 q) 6 0 q learning ∧ Admitted (.defectFlush 0 f) 7 0 f learning ∧
      (q.count = 2 ∧ (q.values.getD 0 0).toInt = (23 : Nat) ∧ (q.values.getD 1 0).toInt = (511 : Nat)) ∧
      (f.count = 2 ∧ (f.values.getD 0 0).toInt = 3 ∧ (f.values.getD 1 0).toInt = -1) :=
  ⟨admitted_of (by decide +kernel), admitted_of (by decide +kernel), by decide +kernel, by decide +kernel⟩

/-- An entry found, at its threshold and below it; the lowest empty slot; a full table with a SUSPECT entry, and one without. -/
theorem witness_FaultFramesHitTheDefectTable :
    let f := faultWedge 3 90
    let s : State := { head3 with defects := [(1, ⟨3, 90, .suspect, 2, 0, false⟩)] }
    let e : DefectEntry := ⟨20, 40, .suspect, 1, 12, false⟩
    let static := fullTable.map fun c => (c.1, { c.2 with state := DefectState.static })
    Arrives 500 f s ∧ Arrives 500 f head3 ∧
    (eligible s 3 90 = true ∧ (readWedge f).index = false ∧ faulty (headRec s 3).burstFloor (readWedge f) = true ∧
      (headRec s 3).defectLearn = true) ∧
    (Table.wf 256 s.defects = true ∧ findDefect s.defects 3 90 = some (1, ⟨3, 90, .suspect, 2, 0, false⟩) ∧
      s.settings.confirmThreshold ≤ min (2 + 1) 15 ∧ ¬s.settings.confirmThreshold ≤ min (1 + 1) 15 ∧ s.out.sending.isSome = true) ∧
    (Unlisted head3.defects 3 90 ∧ LowestEmpty head3.defects 0) ∧
    (Table.wf 256 fullTable = true ∧ Unlisted fullTable 3 90 ∧ Full fullTable ∧ Oldest fullTable 40 e) ∧
    (Unlisted static 3 90 ∧ Full static ∧ ∀ c ∈ static, c.2.state ≠ .suspect) := by
  refine ⟨arrives_of (by decide +kernel), arrives_of (by decide +kernel), by decide +kernel, by decide +kernel, ?_, ?_, ?_⟩
  · unfold Unlisted LowestEmpty; decide +kernel
  · unfold Unlisted Full Oldest; decide +kernel
  · unfold Unlisted Full; decide +kernel

/-- One SUSPECT entry, not hit since the last event, at the age limit. -/
theorem witness_RevolutionEventsAgeDefects :
    let f := indexWedge 0
    Arrives 22800 f learning ∧ (readWedge f).wedge < learning.settings.wedges ∧ (readWedge f).index = true ∧
      learning.clock.state = .locked ∧ Table.wf 256 learning.defects = true ∧
      faulty (headRec learning 0).burstFloor (readWedge f) = false ∧ learning.out.sending.isSome = true ∧
      learning.out.report.length + 1 ≤ 32 ∧ learning.settings.ageLimit ≤ 31 + 1 :=
  ⟨arrives_of (by decide +kernel), by decide +kernel⟩

/-- Errors at the threshold and one above it, from CLEAR, PENDING and TRIPPED, with run counts below and at the limits;
the REPORT queue with room, and full; every trigger mode. -/
theorem witness_MonitorNeedsARunOfFrames :
    let s := fun (m : MonState) run => ({ head3 with contexts := [(3, { monitor := m, run := run })] } : State)
    (¬(busy.settings.threshold < (154 : Int).natAbs) ∧ busy.settings.threshold < (-155 : Int).natAbs) ∧
    ((headContext (s .clear 0) 3).monitor = .clear ∧ 1 < (s .clear 0).settings.tripCount ∧
      ({ tripCount := 1 } : Settings).tripCount ≤ 1) ∧
    ((headContext (s .pending 1) 3).monitor = .pending ∧ (headContext (s .pending 1) 3).run + 1 < busy.settings.tripCount ∧
      busy.settings.tripCount ≤ (headContext (s .pending 2) 3).run + 1) ∧
    ((headContext (s .tripped 1) 3).monitor = .tripped ∧ (headContext (s .tripped 1) 3).run + 1 < busy.settings.releaseCount ∧
      busy.settings.releaseCount ≤ (headContext (s .tripped 2) 3).run + 1 ∧ (headContext (s .tripped 0) 3).run = 0) ∧
    (∀ x ∈ [(155 : Int), -155], busy.settings.threshold < x.natAbs) ∧ (∀ x ∈ [(154 : Int), -154], x.natAbs ≤ busy.settings.threshold) ∧
    ((s .pending 2).settings.triggerMode = 0 ∧ (s .pending 2).out.report.length < 32 ∧ (s .pending 2).out.sending.isSome = true) ∧
    (∀ m < 4, ({ triggerMode := m } : Settings).triggerMode = m) ∧
    32 ≤ ({ busy with out := { busy.out with report := List.replicate 32 [0] } } : State).out.report.length := by
  decide

theorem witness_PlanStartEntersStepZero :
    let q := requestWith 3 0 0 []
    let s := { learning with engine := {}, plan := {} }
    Admitted (.planStart 0 q) 3 0 q s ∧ (s.plan.state ≠ .running ∧ s.out.sending.isSome = true ∧ (planStep s 0).phase ≠ .none) ∧
      (busy.plan.state ≠ .running ∧ (planStep busy 0).phase = .none ∧ busy.out.report.length < 32) :=
  ⟨admitted_of (by decide +kernel), by decide +kernel⟩

/-- The frame that makes the step ACTIVE; the settle frame of a switch worked off by it; a frame without INDEX; a target that is
not valid. -/
theorem witness_StepsBecomeActiveAtRevolutionEvents :
    let f := indexWedge 0
    let r := readWedge f
    let s := { waitingStep with activeHead := some 3, settings := { waitingStep.settings with switchSettle := 1 } }
    let u := { waitingStep with contexts := [] }
    let one := { waitingStep with settings := { waitingStep.settings with switchSettle := 1 } }
    let hold := holdOf 0 101 0 0
    (Arrives 22800 f waitingStep ∧ eligible waitingStep 0 0 = true ∧ waitingStep.plan.sub = some .waiting ∧
      boundTo waitingStep 0 = false ∧ becomesActive 22800 r waitingStep = true) ∧ DefectsHeld waitingStep ∧
    (Arrives 22800 f s ∧ settleFound s 0 = 1 ∧ becomesActive 22800 r s = true) ∧
    (Arrives 500 (soundWedge 0 1) waitingStep ∧ becomesActive 500 (readWedge (soundWedge 0 1)) waitingStep = false) ∧
    becomesActive 22800 r u = false ∧
    (linkCheck .bench hold.bytes = none ∧ 0 < one.settings.headCount ∧ hold.flags.getLsbD 0 = false ∧
      (headContext one 0).targetTrack ≠ hold.track.toNat % 2 ^ 20 ∧ 0 < one.settings.switchSettle) ∧
    (Arrives 22800 f (after (.hold hold) one) ∧ eligible (after (.hold hold) one) 0 0 = true ∧
      (after (.hold hold) one).plan.sub = some .waiting ∧ boundTo (after (.hold hold) one) 0 = false) ∧
    DefectsHeld (after (.hold hold) one) :=
  ⟨⟨arrives_of (by decide +kernel), by decide +kernel⟩, defects_held settings_held (by decide +kernel),
    ⟨arrives_of (by decide +kernel), by decide +kernel⟩, ⟨arrives_of (by decide +kernel), by decide +kernel⟩, by decide +kernel,
    by decide +kernel, ⟨arrives_of (by decide +kernel), by decide +kernel⟩,
    defects_held (by constructor <;> decide +kernel) (by decide +kernel)⟩

/-- A step the engine is bound to, with 30 reports waiting; a step it is not bound to; no plan. -/
theorem witness_PlanStopAbortsTheStep :
    let q := requestWith 4 0 0 []
    let s := { learning with out := { learning.out with report := List.replicate 30 [0] } }
    Admitted (.planStop 0 q) 4 0 q s ∧
    (s.out.sending.isSome = true ∧ s.plan.state = .running ∧ s.plan.current = some 0 ∧ s.out.report.length ≤ 30 ∧
      s.engine.binding = some { head := 0, step := 0 }) ∧
    (waitingStep.engine.binding = none ∧ waitingStep.plan.state = .running ∧ waitingStep.plan.sub = some .waiting) ∧
    busy.plan.state ≠ .running :=
  ⟨admitted_of (by decide +kernel), by decide +kernel⟩

/-- A further step; none; on-fail STOP; a stopped timer; an OFFSET step that waits, in a part whose plan stands as PlanHeld
says. -/
theorem witness_WaitTimeoutFailsTheStep :
    let o := { waitingStep with steps := [(0, { phase := .offset, timeout := 9 })] }
    busy.plan.waitTimer = none ∧
    (waitingStep.plan.waitTimer.isSome = true ∧ waitingStep.plan.current = some 0 ∧ waitingStep.out.sending.isSome = true ∧
      waitingStep.out.report.length ≤ 30 ∧ (planStep waitingStep 0).onFail ≠ .stop ∧ ¬(planStep waitingStep 1).phase = .none) ∧
    (planStep busy 1).phase = .none ∧ ({ onFail := .stop } : PlanStep).onFail = .stop ∧
    (∃ b, learning.engine.binding = some b ∧ b.step = 0) ∧
    (PlanHeld o ∧ o.plan.waitTimer.isSome = true ∧ (planStep o 0).phase = .offset) :=
  ⟨by decide, by decide, by decide, by decide, ⟨_, rfl, rfl⟩, plan_held 0 (by decide +kernel), by decide, by decide⟩

/-- `learning` with an ACTIVE step of another phase, limits 1 and 40, one revolution; with registers as given, without defects. -/
def measuring (phase : Phase) (regs : Registers) : State :=
  { learning with
    steps := [(0, { phase := phase, limitA := if phase = .settle then 1 else 120, limitB := 40 })]
    engine := {}
    defects := []
    plan := { learning.plan with regs := regs } }

/-- Every hypothesis but the phase's own: what `measuring` meets whatever its phase and registers. -/
def Measures (s : State) : Prop :=
  Arrives 22800 (indexWedge 0) s ∧ PlanHeld s ∧
    (eligible s 0 0 = true ∧ rulingOn 22800 (readWedge (indexWedge 0)) s ≠ .slip ∧ s.plan.current = some 0 ∧
      s.plan.sub = some .active ∧ (planStep s 0).head = 0 ∧ s.out.sending.isSome = true ∧ s.out.report.length < 32 ∧
      ∀ c ∈ s.defects, c.2.head = 0 → c.2.state ≠ .suspect)

/-- SETTLE at its clean revolution, spoiled at the fourth used one, and spoiled before. -/
theorem witness_MeasurementsEndAtTheirLastRevolution_settle :
    let clean := measuring .settle {}
    let spoiled := measuring .settle { settleMark := true, settleUsed := 3 }
    let between := measuring .settle { settleMark := true, settleUsed := 2 }
    (Measures clean ∧ Measures spoiled ∧ Measures between) ∧
    (clean.plan.regs.settleUsed = 0 ∧ clean.plan.regs.settleClean = 0 ∧ clean.plan.regs.settleMark = false) ∧
    ((planStep clean 0).phase = .settle ∧ (planStep clean 0).limitA = 1 ∧ 1 ≤ clean.plan.regs.settleClean + 1 ∧
      4 ≤ spoiled.plan.regs.settleUsed + 1 ∧ between.plan.regs.settleUsed + 1 < 4) :=
  ⟨⟨⟨arrives_of (by decide +kernel), plan_held 0 (by decide +kernel), by decide +kernel⟩,
    ⟨arrives_of (by decide +kernel), plan_held 0 (by decide +kernel), by decide +kernel⟩,
    ⟨arrives_of (by decide +kernel), plan_held 0 (by decide +kernel), by decide +kernel⟩⟩, by decide +kernel, by decide +kernel⟩

/-- OFFSET with half the frames, of a head that tracks and of one that does not; with fewer; before its last revolution. -/
theorem witness_MeasurementsEndAtTheirLastRevolution_offset :
    let half := measuring .offset { offsetCount := 32, offsetSum := 64 }
    let tracked := { half with headRecs := [(0, { source := .track, refHead := 1 }), (1, { offsetValid := true })] }
    let thin := measuring .offset { offsetCount := 31 }
    let longer := { half with steps := [(0, { phase := .offset, m := 1 })] }
    (Measures half ∧ Measures tracked ∧ Measures thin ∧ Measures longer) ∧
    ((planStep half 0).phase = .offset ∧ 1 ≤ half.settings.wedges ∧ 2 ^ (planStep half 0).m ≤ half.plan.regs.offsetRevs + 1 ∧
      half.settings.wedges * 2 ^ (planStep half 0).m ≤ 2 * half.plan.regs.offsetCount ∧ tracking half 0 = false ∧
      tracking tracked 0 = true) ∧
    (2 * thin.plan.regs.offsetCount < thin.settings.wedges * 2 ^ (planStep thin 0).m ∧
      longer.plan.regs.offsetRevs + 1 < 2 ^ (planStep longer 0).m) :=
  ⟨⟨⟨arrives_of (by decide +kernel), plan_held 0 (by decide +kernel), by decide +kernel⟩,
    ⟨arrives_of (by decide +kernel), plan_held 0 (by decide +kernel), by decide +kernel⟩,
    ⟨arrives_of (by decide +kernel), plan_held 0 (by decide +kernel), by decide +kernel⟩,
    ⟨arrives_of (by decide +kernel), plan_held 0 (by decide +kernel), by decide +kernel⟩⟩, by decide +kernel, by decide +kernel⟩

/-- VERIFY at both limits; above limit A; above limit B; with fewer than half the frames; before its last revolution. -/
theorem witness_MeasurementsEndAtTheirLastRevolution_verify :
    let within := measuring .verify { verifyCount := 32, verifyGreatest := 120, verifySum := 1311 }
    let beyondA := measuring .verify { verifyCount := 32, verifyGreatest := 121 }
    let beyondB := measuring .verify { verifyCount := 32, verifySum := 1312 }
    let thin := measuring .verify { verifyCount := 31 }
    let longer := { within with steps := [(0, { phase := .verify, m := 1 })] }
    (Measures within ∧ Measures beyondA ∧ Measures beyondB ∧ Measures thin ∧ Measures longer) ∧
    ((planStep within 0).phase = .verify ∧ 2 ^ (planStep within 0).m ≤ within.plan.regs.verifyRevs + 1 ∧
      within.settings.wedges * 2 ^ (planStep within 0).m ≤ 2 * within.plan.regs.verifyCount ∧
      (planStep within 0).limitA = 120 ∧ (planStep within 0).limitB = 40 ∧ 1311 / 32 = 40 ∧ 1312 / 32 = 41) ∧
    (2 * thin.plan.regs.verifyCount < thin.settings.wedges * 2 ^ (planStep thin 0).m ∧
      longer.plan.regs.verifyRevs + 1 < 2 ^ (planStep longer 0).m) :=
  ⟨⟨⟨arrives_of (by decide +kernel), plan_held 0 (by decide +kernel), by decide +kernel⟩,
    ⟨arrives_of (by decide +kernel), plan_held 0 (by decide +kernel), by decide +kernel⟩,
    ⟨arrives_of (by decide +kernel), plan_held 0 (by decide +kernel), by decide +kernel⟩,
    ⟨arrives_of (by decide +kernel), plan_held 0 (by decide +kernel), by decide +kernel⟩,
    ⟨arrives_of (by decide +kernel), plan_held 0 (by decide +kernel), by decide +kernel⟩⟩, by decide +kernel, by decide +kernel⟩

theorem witness_FullAnswerQueueDiscardsTheRequest :
    let q := requestWith 9 0 0 [3]
    requestOf (.runoutZero 0 q) = some (9, 0, q) ∧ linkCheck .bench (q.bytes 9 0) = none ∧
      4 ≤ ({ busy with out := { busy.out with answer := List.replicate 4 [0] } } : State).out.answer.length := by
  decide +kernel

/-- The last cell of RUNOUT; eight cells of STATE up to its end; an empty slot and an occupied one of DEFECT. -/
theorem witness_GetAnswersTheCells :
    let q := requestWith 1 4 12287 []
    let r := countedRequest 1 7 8 8 (List.replicate 8 0)
    let d := countedRequest 1 5 8 0 (List.replicate 8 0)
    (Admitted (.get 4 q) 1 4 q busy ∧ Admitted (.get 7 r) 1 7 r learning ∧ Admitted (.get 5 d) 1 5 d learning) ∧
    (busy.out.sending.isSome = true ∧ objOf (4 : Byte).toNat = some .runout ∧
      q.index.toNat + max 1 (min q.count.toNat 8) ≤ Obj.size .runout) ∧
    (learning.out.sending.isSome = true ∧ objOf (7 : Byte).toNat = some .state ∧ objOf (5 : Byte).toNat = some .defect ∧
      r.index.toNat + max 1 (min r.count.toNat 8) = Obj.size .state ∧
      d.index.toNat + max 1 (min d.count.toNat 8) ≤ Obj.size .defect ∧
      (Table.find? learning.defects 0).isSome = true ∧ Table.find? learning.defects 1 = none) :=
  ⟨⟨admitted_of (by decide +kernel), admitted_of (by decide +kernel), admitted_of (by decide +kernel)⟩, by decide +kernel⟩

/-- A SET of the last cell of RUNOUT, and of a head's burst floor with a value its field clamps; of one counter; of the
alert mask. -/
theorem witness_SetReadsBack :
    let q := requestWith 2 4 12287 [3000]
    let r := requestWith 2 2 2 [9000]
    let m := requestWith 2 9 1 [4097]
    (Admitted (.set 4 q) 2 4 q busy ∧ Admitted (.setHeadrec r) 2 2 r busy ∧
      Admitted (.setCounter (requestWith 2 8 23 [5])) 2 8 (requestWith 2 8 23 [5]) busy ∧
      Admitted (.setAlertMask m) 2 9 m busy) ∧
    (objOf (8 : Byte).toNat = some .counter ∧ readOnlyCell .counter 23 = false ∧ heldCell busy .counter 23 = false ∧
      objOf (9 : Byte).toNat = some .alert ∧ readOnlyCell .alert 1 = false ∧ heldCell busy .alert 1 = false) ∧
    (objOf (4 : Byte).toNat = some .runout ∧ 1 ≤ q.count.toNat ∧ q.index.toNat + q.count.toNat ≤ Obj.size .runout ∧
      ∀ i < q.count.toNat, readOnlyCell .runout (q.index.toNat + i) = false ∧ heldCell busy .runout (q.index.toNat + i) = false) ∧
    (objOf (2 : Byte).toNat = some .headrec ∧ readOnlyCell .headrec 2 = false ∧ heldCell busy .headrec 2 = false ∧
      storedValue .headrec 2 9000 ≠ 9000) :=
  ⟨⟨admitted_of (by decide +kernel), admitted_of (by decide +kernel), admitted_of (by decide +kernel),
    admitted_of (by decide +kernel)⟩, by decide +kernel⟩

/-- A W that differs from the one held, while the clock is LOCKED, and the one held. -/
theorem witness_SettingWedgesUnlocksTheClock :
    let q := requestWith 2 1 1 [600]
    let r := requestWith 2 1 1 [64]
    let s := { learning with engine := {}, plan := {} }
    Admitted (.setWedgesPerRevolution q) 2 1 q clock651 ∧ Admitted (.setWedgesPerRevolution r) 2 1 r s ∧
      (q.index = 1 ∧ q.count = 1 ∧ max 64 (min 512 (q.values.getD 0 0).toInt) = clock651.settings.wedges) ∧
      (max 64 (min 512 (q.values.getD 0 0).toInt) ≠ s.settings.wedges ∧ s.clock.state = .locked ∧
        s.plan.state ≠ .running ∧ s.engine.binding = none) :=
  ⟨admitted_of (by decide +kernel), admitted_of (by decide +kernel), by decide +kernel⟩

/-- `learning` with a full table without a SUSPECT entry. -/
def refusing : State := { learning with defects := fullTable.map fun c => (c.1, { c.2 with state := DefectState.static }) }

/-- Each rule of `Refused`, met by an admitted request at a boundary of its range. -/
theorem witness_RefusedRequestsChangeNothing :
    let r := fun (code object : Byte) (index : Nat) (values : List Int) => requestWith code object index values
    let met := fun (c : Instr) (code object : Byte) (q : Request) (status : Nat) =>
      Admitted c code object q refusing ∧ Refused object q refusing code.toNat status
    refusing.out.sending.isSome = true ∧
    met (.unknownRequest 11 0 (r 11 0 0 [])) 11 0 (r 11 0 0 []) 7 ∧
    met (.get 10 (r 1 10 0 [])) 1 10 (r 1 10 0 []) 7 ∧ met (.get 9 (r 1 9 2 [])) 1 9 (r 1 9 2 []) 4 ∧
    met (.set 3 (r 2 3 215 [0, 0])) 2 3 (r 2 3 215 [0, 0]) 4 ∧ met (.set 3 (r 2 3 0 [])) 2 3 (r 2 3 0 []) 4 ∧
    met (.set 1 (r 2 1 13 [0, 0])) 2 1 (r 2 1 13 [0, 0]) 6 ∧ met (.set 4 (r 2 4 511 [0])) 2 4 (r 2 4 511 [0]) 3 ∧
    met (.setWedgesPerRevolution (r 2 1 1 [64])) 2 1 (r 2 1 1 [64]) 3 ∧
    met (.planStart 0 (r 3 0 0 [])) 3 0 (r 3 0 0 []) 2 ∧
    met (.defectAdd 0 (r 5 0 0 [23, 512])) 5 0 (r 5 0 0 [23, 512]) 4 ∧
    met (.defectAdd 0 (r 5 0 0 [23, 511])) 5 0 (r 5 0 0 [23, 511]) 5 ∧
    met (.defectFlush 0 (r 7 0 0 [4, -1])) 7 0 (r 7 0 0 [4, -1]) 4 ∧ met (.alertClear 0 (r 8 0 0 [])) 8 0 (r 8 0 0 []) 4 ∧
    met (.runoutZero 0 (r 9 0 0 [24])) 9 0 (r 9 0 0 [24]) 4 ∧ met (.runoutZero 0 (r 9 0 0 [0])) 9 0 (r 9 0 0 [0]) 3 := by
  refine ⟨by decide, ⟨admitted_of (by decide +kernel), .unknownCode _ (by decide)⟩,
    ⟨admitted_of (by decide +kernel), .unknownObject _ (by decide) (by decide)⟩,
    ⟨admitted_of (by decide +kernel), .getRange .alert (by decide) (by decide)⟩,
    ⟨admitted_of (by decide +kernel), .setRange .lintab (by decide) (by decide)⟩,
    ⟨admitted_of (by decide +kernel), .setRange .lintab (by decide) (by decide)⟩,
    ⟨admitted_of (by decide +kernel), .setReadonly .setting 1 (by decide) (by decide) (by decide) ?_⟩,
    ⟨admitted_of (by decide +kernel), .setInuse .runout 0 (by decide) (by decide) (fun _ _ h => h) (by decide) ⟨_, rfl, by decide⟩⟩,
    ⟨admitted_of (by decide +kernel), .setInuse .setting 0 (by decide) (by decide) ?_ (by decide) ⟨by decide, .inl (by decide)⟩⟩,
    ⟨admitted_of (by decide +kernel), .planStartBusy (by decide)⟩,
    ⟨admitted_of (by decide +kernel), .defectRange _ (by decide) (by decide)⟩,
    ⟨admitted_of (by decide +kernel), .defectFull 23 511 (by decide) (by decide) (by decide) (by decide) (by decide) ?_ ?_ ?_⟩,
    ⟨admitted_of (by decide +kernel), .flushRange (by decide)⟩, ⟨admitted_of (by decide +kernel), .alertClearRange (by decide)⟩,
    ⟨admitted_of (by decide +kernel), .runoutZeroRange (by decide)⟩,
    ⟨admitted_of (by decide +kernel), .runoutZeroInuse _ (by decide) rfl (by decide) (by decide)⟩⟩
  · unfold unwritable; decide
  · unfold unwritable; decide
  · unfold Unlisted; decide +kernel
  · unfold Full; decide +kernel
  · decide +kernel

theorem witness_AlertClearAndRunoutZeroClearWhatTheyName :
    let q := requestWith 8 0 0 [4095]
    let r := requestWith 9 0 0 [23]
    (Admitted (.alertClear 0 q) 8 0 q busy ∧ 1 ≤ q.count.toNat ∧ busy.out.sending.isSome = true) ∧
    (Admitted (.runoutZero 0 r) 9 0 r learning ∧ 1 ≤ r.count.toNat ∧ (r.values.getD 0 0).toInt = (23 : Nat) ∧
      boundTo learning 23 = false ∧ learning.out.sending.isSome = true) :=
  ⟨⟨admitted_of (by decide +kernel), by decide +kernel⟩, ⟨admitted_of (by decide +kernel), by decide +kernel⟩⟩

theorem witness_ResetsKeepAndClear :
    let q := requestWith 10 0 0 []
    Admitted (.restart 0 q) 10 0 q learning := admitted_of (by decide +kernel)

theorem witness_AlertsAndCountersOnlyRise :
    let s := { learning with alerts := { learning.alerts with counters := [(19, 65535)] } }
    Instr.wellFormed (.hold (holdOf 0 101 0 0)) = true ∧ CountersHeld s ∧
      exec (.hold (holdOf 0 101 0 0)) s = .next (after (.hold (holdOf 0 101 0 0)) s) :=
  ⟨rfl, ⟨by decide, by decide⟩, rfl⟩

theorem witness_EachTableHasItsWriters :
    Instr.wellFormed (.wedge 22800 (indexWedge 0)) = true ∧
      exec (.wedge 22800 (indexWedge 0)) solving = .next (after (.wedge 22800 (indexWedge 0)) solving) := ⟨rfl, rfl⟩

/-! The invariants' hypotheses: `learning` and `solving` with a command waiting. -/

/-- `learning` with the fault frame of wedge 1 waiting. -/
def learningNext : State := { learning with pending := [.wedge 10200 (faultWedge 0 1)] }

theorem witness_ContextsStayInRange :
    ContextsHeld learningNext ∧ ∃ t, step learningNext = .next t :=
  ⟨⟨settings_held, by decide, fun c h => by
      simp only [learningNext, learning, List.mem_singleton] at h
      subst h
      constructor <;> decide, fun h e => by cases e; decide⟩, _, rfl⟩

theorem witness_DefectsStayUnique : DefectsHeld learningNext ∧ ∃ t, step learningNext = .next t :=
  ⟨defects_held settings_held (by decide +kernel), _, rfl⟩

theorem witness_TheClockLawIsKept : ClockHeld learningNext ∧ ∃ t, step learningNext = .next t :=
  ⟨{ settings := settings_held
     running := fun _ =>
       { period := by decide
         law := by decide
         remainder := by decide
         expected := ⟨_, rfl, by decide, by decide⟩
         lastIndex := by decide
         misses := by decide
         missCount := by decide
         acquisition := by decide }
     stopped := by decide
     acquisition := by decide
     frames := fun a h => by cases h
     idle := by decide
     refresh := by decide
     budget := fun n h => by cases h; decide }, _, rfl⟩

theorem witness_ActiveStepsKeepTheirConditions : PlanHeld learningNext ∧ ∃ t, step learningNext = .next t :=
  ⟨plan_held 0 (by decide +kernel), _, rfl⟩

theorem witness_QueuesTransmittersAndCountersHold :
    (CapacitiesHeld learningNext ∧ TransmittersHeld learningNext ∧ CountersHeld learningNext) ∧
      ∃ t, step learningNext = .next t :=
  ⟨⟨by constructor <;> decide, ⟨by decide, by decide⟩, ⟨by decide, by decide⟩⟩, _, rfl⟩

/-- With a pending solve, and with cells. -/
theorem witness_LearningStaysInRange :
    (LearningHeld learningNext ∧ ∃ t, step learningNext = .next t) ∧ LearningHeld solving := by
  have steps : ∀ c ∈ learning.steps, StepHeld c.2 := by
    intro c h
    simp only [learning, List.mem_cons, List.not_mem_nil, or_false] at h
    rcases h with h | h <;> subst h <;> constructor <;> decide
  have configuration : ∀ s : State, s.settings = learning.settings → s.steps = learning.steps → s.linTab = [] →
      ConfigurationHeld s := fun s h₁ h₂ h₃ =>
    ⟨h₁ ▸ settings_held, h₂ ▸ by decide, h₂ ▸ steps, h₃ ▸ by decide, h₃ ▸ by decide⟩
  refine ⟨⟨⟨configuration _ rfl rfl rfl, fun n h => by cases h; decide, ?_, by decide, by decide, by decide, fun c h => by cases h⟩,
    _, rfl⟩, ⟨configuration _ rfl rfl rfl, fun n h => by cases h; decide, ?_, by decide, by decide, by decide, fun c h => by cases h⟩⟩
  · exact
      { unbound := by decide
        params := by decide
        binding := fun b h => by cases h; decide
        inRange := fun p h => by cases h; constructor <;> decide
        number := fun p h => by cases h; decide
        noNumber := by decide
        solve := by decide
        pending := fun v h => by cases h
        counting := fun _ p h => by cases h; decide
        revs := by decide
        cellsForm := by decide
        cells := fun c h => by
          simp only [learningNext, learning, List.mem_singleton] at h
          subst h
          exact ⟨_, rfl, by decide, by decide⟩ }
  · exact
      { unbound := by decide
        params := by decide
        binding := fun b h => by cases h; decide
        inRange := fun p h => by cases h; constructor <;> decide
        number := fun p h => by cases h; decide
        noNumber := by decide
        solve := by decide
        pending := fun v h => by cases h; constructor <;> decide
        counting := by decide
        revs := by decide
        cellsForm := by decide
        cells := fun c h => by cases h }

end Sys2Proof.Tests
end

section
/-! PROOFS. A frame that fails a check on arrival (R4, R7, R8): which check every frame command runs, what a failure leaves
behind at either port, and the two statements about it. -/

namespace Sys2Proof.LinkFailures

open Sys2Proof.Machine Sys2Proof.Safety

/-! ### Alerts, counters and the latch in the manual's words -/

theorem weight_eq_twoPow (a : Alert) : a.weight = BitVec.twoPow 12 a.position := by
  cases a <;> rfl

/-- A drop or a failure is mostly a counter and an alert; the pair changes the alerts and nothing else (R152, R156). -/
theorem raise_bump_eq (a : Alert) (k : Counter) (s : State) :
    raise a (bump k s) =
      { s with alerts :=
        { s.alerts with flags := raised s.alerts.flags [a.position], counters := counted s k.index 1 } } := by
  rw [raise, weight_eq_twoPow]
  rfl

theorem raised_getLsbD (flags : BitVec 12) {i : Nat} (h : i < 12) : (raised flags [i]).getLsbD i = true := by
  simp [raised, h]

/-- One flag set and not hidden is enough for attention (R155). -/
theorem attention_of_flag {s : State} {i : Nat} (hf : s.alerts.flags.getLsbD i = true)
    (hm : s.alerts.mask.getLsbD i = false) : attention s = true := by
  have hi : i < 12 := BitVec.lt_of_getLsbD hf
  have shown : (s.alerts.flags &&& ~~~s.alerts.mask).getLsbD i = true := by
    simp only [BitVec.getLsbD_and, BitVec.getLsbD_not, hf, hm, hi]
    rfl
  rw [attention, bne_iff_ne]
  intro none_shown
  simp [none_shown] at shown

theorem setCause_eq (l : Latch) (cause : LinkCause) :
    l.setCause cause =
      { crc := l.crc || cause == .crc
        length := l.length || cause == .length
        misdirected := l.misdirected || cause == .misdirected
        fifoDrop := l.fifoDrop } := by
  cases cause <;> simp [Latch.setCause]

/-! ### The check every frame command runs -/

/-- Every request row is its MGMT frame, checked, with the action its code names (R143, R144). -/
theorem exec_requestOf {c : Instr} {code object : Byte} {r : Request} (h : requestOf c = some (code, object, r))
    (s : State) : exec c s = .next (requestFrame (actionOf code) code object r s) := by
  cases c with
  | get | set | setCounter | setAlertMask | setWedgesPerRevolution | setHeadrec | planStart | planStop | defectAdd
  | defectRemove | defectFlush | alertClear | runoutZero | restart | unknownRequest => cases h; rfl
  | _ => cases h

theorem exec_frontFrame {c : Instr} {bytes : Frame} (h : frontFrame c = some bytes) :
    ∃ take, ∀ s, exec c s = .next (frontChecked bytes take s) := by
  cases c with
  | wedge | festat | unknownKindUpstream => cases h; exact ⟨_, fun _ => rfl⟩
  | _ => cases h

theorem exec_benchFrame {c : Instr} {bytes : Frame} (h : benchFrame c = some bytes) :
    ∃ take, ∀ s, exec c s = .next (benchChecked bytes take s) := by
  rcases hr : requestOf c with _ | ⟨code, object, r⟩ <;> simp only [benchFrame, hr] at h
  · cases c with
    | fecmd | hold | unknownKindDownstream => cases h; exact ⟨_, fun _ => rfl⟩
    | _ => cases h
  · cases h
    exact ⟨_, exec_requestOf hr⟩

/-! ### What a failed check does -/

theorem frontChecked_failed {bytes : Frame} {cause : LinkCause} (h : linkCheck .front bytes = some cause)
    (take : State → State) (s : State) : frontChecked bytes take s = frontLinkError cause s := by
  simp only [frontChecked, h]

theorem benchChecked_failed {bytes : Frame} {cause : LinkCause} (h : linkCheck .bench bytes = some cause)
    (take : State → State) (s : State) : benchChecked bytes take s = benchLinkError cause s := by
  simp only [benchChecked, h]

theorem frontLinkError_eq (cause : LinkCause) (s : State) :
    frontLinkError cause s =
      { s with alerts :=
        { s.alerts with flags := raised s.alerts.flags [7], counters := counted s cause.frontCounter.index 1 } } :=
  raise_bump_eq .frontLinkError cause.frontCounter s

theorem benchLinkError_eq (cause : LinkCause) (s : State) :
    benchLinkError cause s =
      { s with
        alerts := { s.alerts with flags := raised s.alerts.flags [8], counters := counted s cause.benchCounter.index 1 }
        link := { s.link with latch :=
          { crc := s.link.latch.crc || cause == .crc
            length := s.link.latch.length || cause == .length
            misdirected := s.link.latch.misdirected || cause == .misdirected
            fifoDrop := s.link.latch.fifoDrop } } } := by
  rw [benchLinkError, raise_bump_eq, setCause_eq]
  rfl

/-- A front-port failure shows in the attention flag unless the mask hides FRONT_LINK_ERROR (R7, R155). -/
theorem attention_frontLinkError (cause : LinkCause) {s : State} (hm : s.alerts.mask.getLsbD 7 = false) :
    attention (frontLinkError cause s) = true := by
  rw [frontLinkError_eq]
  exact attention_of_flag (raised_getLsbD _ (by decide)) hm

/-! ### The statements -/

/-- Settles O8: every front-port row runs its checks first, and a failed one ends in `frontLinkError`. -/
theorem failedFrontFramesAreOnlyCounted : Obligations.FailedFrontFramesAreOnlyCounted := by
  intro c s bytes cause hframe hfail
  obtain ⟨take, hexec⟩ := exec_frontFrame hframe
  refine ⟨frontLinkError cause s, ?_, ?_, rfl, attention_frontLinkError cause⟩
  · rw [hexec, frontChecked_failed hfail]
  · rw [frontLinkError_eq]
    cases cause <;> rfl

/-- Settles O9: every bench-port row, requests included, runs its checks first, and a failed one ends in `benchLinkError`. -/
theorem failedBenchFramesAreCountedAndLatched : Obligations.FailedBenchFramesAreCountedAndLatched := by
  intro c s bytes cause hframe hfail
  obtain ⟨take, hexec⟩ := exec_benchFrame hframe
  refine ⟨benchLinkError cause s, ?_, ?_⟩
  · rw [hexec, benchChecked_failed hfail]
  · rw [benchLinkError_eq]
    cases cause <;> rfl

end Sys2Proof.LinkFailures
end

section
/-! PROOFS. Rounded division (spec/00, "Rounding and division") and the two ratios of the Demodulator (R25): the quotient
`roundDiv` computes is the one `Rounded` describes, and what that description alone says of a quotient. -/

namespace Sys2Proof.Rounding

open Sys2Proof.Machine Sys2Proof.Safety

/-! ### Rounded division -/

/-- Halves away from zero is symmetric, so the negative quotients follow from the others. -/
theorem rounded_neg {q x : Int} {d : Nat} (h : Rounded q x d) : Rounded (-q) (-x) d := by
  have error_neg : -(q * d) - -x = -(q * d - x) := by ring
  simpa only [Rounded, neg_mul, error_neg, abs_neg] using h

/-- The floor of (2n + d) / 2d is within half of n / d, and at a half it is the one above. -/
theorem rounded_natCast (n : Nat) {d : Nat} (hd : 0 < d) : Rounded ((2 * n + d) / (2 * d) : Nat) n d := by
  have floor_le := Nat.mul_div_le (2 * n + d) (2 * d)
  have lt_next := Nat.lt_mul_div_succ (2 * n + d) (show 0 < 2 * d by omega)
  generalize (2 * n + d) / (2 * d) = m at *
  have below : 2 * ((m : Int) * d) ≤ 2 * n + d := by linarith
  have above : 2 * (n : Int) < 2 * ((m : Int) * d) + d := by linarith
  rcases le_or_gt (n : Int) (m * d) with up | down
  · have error : |(m : Int) * d - n| = m * d - n := abs_of_nonneg (by linarith)
    refine ⟨by linarith, fun half => ?_⟩
    rw [abs_of_nonneg (by positivity), abs_of_nonneg (by positivity)]
    linarith
  · have error : |(m : Int) * d - n| = n - m * d := by rw [abs_of_neg (by linarith)]; ring
    exact ⟨by linarith, fun half => by linarith⟩

/-- `roundDiv` is the rounded division of the manual. -/
theorem roundDiv_rounded (x : Int) {d : Nat} (hd : 0 < d) : Rounded (roundDiv x d) x d := by
  have magnitude := rounded_natCast x.natAbs hd
  rcases lt_or_ge x 0 with hx | hx
  · rw [roundDiv, if_pos hx]
    simpa only [Int.ofNat_natAbs_of_nonpos hx.le, neg_neg] using rounded_neg magnitude
  · rw [roundDiv, if_neg hx.not_gt]
    rwa [Int.natAbs_of_nonneg hx] at magnitude

/-- A rounded quotient does not leave a range of whole numbers that the exact one keeps. -/
theorem le_of_rounded {q x k : Int} {d : Nat} (hd : 0 < d) (h : Rounded q x d) (hx : x ≤ k * d) : q ≤ k := by
  by_contra hk
  have past : (k + 1) * (d : Int) ≤ q * d := mul_le_mul_of_nonneg_right (by omega) (by omega)
  have error_small : 2 * (q * d - x) ≤ d := le_trans (by linarith [le_abs_self (q * d - x)]) h.1
  linarith

theorem ge_of_rounded {q x k : Int} {d : Nat} (hd : 0 < d) (h : Rounded q x d) (hx : k * d ≤ x) : k ≤ q :=
  neg_le_neg_iff.mp (le_of_rounded hd (rounded_neg h) (by linarith))

/-- An exact quotient is left as it is. -/
theorem eq_of_rounded_mul {q k : Int} {d : Nat} (hd : 0 < d) (h : Rounded q (k * d) d) : q = k :=
  le_antisymm (le_of_rounded hd h le_rfl) (ge_of_rounded hd h le_rfl)

/-! ### The ratios (R25) -/

/-- A frame that is not FAULT is not WEAK, so neither pair of bursts is silent (R22, R23). -/
theorem burstSums_pos {floor : Nat} {r : WedgeRead} (h : faulty floor r = false) :
    0 < r.a + r.b ∧ 0 < r.c + r.d := by
  have not_weak : weak floor r = false := (Bool.or_eq_false_iff.mp h).2
  simp only [weak, Bool.or_eq_false_iff, beq_eq_false_iff_ne] at not_weak
  omega

/-- A burst pair's ratio where the pair is not silent: rounded, in range, and at an end where one burst is 0. -/
theorem ratio_rounded {x y : Nat} (h : 0 < x + y) :
    Rounded (ratio x y) (((x : Int) - y) * 512) (x + y) ∧ -512 ≤ ratio x y ∧ ratio x y ≤ 512 ∧
      (x = 0 → ratio x y = -512) ∧ (y = 0 → ratio x y = 512) := by
  have rounded : Rounded (ratio x y) (((x : Int) - y) * 512) (x + y) := roundDiv_rounded _ h
  refine ⟨rounded, ge_of_rounded h rounded ?_, le_of_rounded h rounded ?_, ?_, ?_⟩
  · push_cast; omega
  · push_cast; omega
  · rintro rfl
    exact eq_of_rounded_mul h (by convert rounded using 1; push_cast; ring)
  · rintro rfl
    exact eq_of_rounded_mul h (by convert rounded using 1; push_cast; ring)

/-- Settles O14: a frame that is not FAULT has no silent pair, and each ratio is the rounded one of its pair. -/
theorem ratiosAreRounded : Obligations.RatiosAreRounded := by
  intro floor f r n q sound
  obtain ⟨normal, quadrature⟩ := burstSums_pos sound
  exact ⟨ratio_rounded normal, ratio_rounded quadrature⟩

end Sys2Proof.Rounding
end

section
/-! PROOFS. The line's side of a frame (R2 to R6, R20): numbers and their bytes, the envelope every frame has, the checks on
arrival in its terms, the CRC, and the statements about them. -/

namespace Sys2Proof.Envelopes

set_option Elab.async false

open Sys2Proof.Machine Sys2Proof.Safety Sys2Proof.LinkFailures

/-! ### Numbers as bytes (R20) -/

@[simp] theorem length_be (n v : Nat) : (be n v).length = n := by
  induction n generalizing v with
  | zero => rfl
  | succ n ih => simp [be, ih]

theorem ofBe_append_singleton (bytes : List Byte) (b : Byte) : ofBe (bytes ++ [b]) = ofBe bytes * 256 + b.toNat := by
  simp [ofBe]

/-- The bytes of a number spell it, as far as they reach. -/
@[simp] theorem ofBe_be (n v : Nat) : ofBe (be n v) = v % 256 ^ n := by
  induction n generalizing v with
  | zero => simp [be, ofBe, Nat.mod_one]
  | succ n ih =>
    rw [be, ofBe_append_singleton, ih, BitVec.toNat_ofNat, pow_succ' 256 n, Nat.mod_mul]
    omega

/-- Bytes are the bytes of the number they spell. -/
theorem be_ofBe (bytes : List Byte) : be bytes.length (ofBe bytes) = bytes := by
  induction bytes using List.reverseRecOn with
  | nil => rfl
  | append_singleton bytes b ih =>
    rw [List.length_append, List.length_singleton, be, ofBe_append_singleton]
    have hb := b.isLt
    have quotient : (ofBe bytes * 256 + b.toNat) / 256 = ofBe bytes := by omega
    have last : BitVec.ofNat 8 (ofBe bytes * 256 + b.toNat) = b := by
      apply BitVec.eq_of_toNat_eq
      rw [BitVec.toNat_ofNat]
      omega
    rw [quotient, ih, last]

theorem ofBe_lt (bytes : List Byte) : ofBe bytes < 256 ^ bytes.length := by
  induction bytes using List.reverseRecOn with
  | nil => simp [ofBe]
  | append_singleton bytes b ih =>
    have hb := b.isLt
    rw [ofBe_append_singleton, List.length_append, List.length_singleton, pow_succ]
    omega

/-- A field of whole bytes is read back from its bytes. -/
theorem ofNat_ofBe_be {w : Nat} (n : Nat) (x : BitVec w) (h : 256 ^ n = 2 ^ w) : BitVec.ofNat w (ofBe (be n x.toNat)) = x := by
  apply BitVec.eq_of_toNat_eq
  rw [ofBe_be, h, BitVec.toNat_ofNat, Nat.mod_mod, Nat.mod_eq_of_lt x.isLt]

/-- Bytes are read back from the field they fill. -/
theorem be_ofNat_ofBe {w : Nat} (bytes : List Byte) (h : 256 ^ bytes.length = 2 ^ w) :
    be bytes.length (BitVec.ofNat w (ofBe bytes)).toNat = bytes := by
  rw [BitVec.toNat_ofNat, ← h, Nat.mod_eq_of_lt (ofBe_lt bytes), be_ofBe]

theorem be_one (b : Byte) : be 1 b.toNat = [b] := by simp [be]

theorem ofBe_singleton (b : Byte) : ofBe [b] = b.toNat := by simp [ofBe]

/-! ### The envelope (R2) -/

/-- Kind, length, body and CRC, as every frame has them. -/
def envelope (kind length : Byte) (body : List Byte) (crc : BitVec 16) : Frame :=
  kind :: length :: (body ++ be 2 crc.toNat)

section
variable (kind length : Byte) (body : List Byte) (crc : BitVec 16)

@[simp] theorem length_envelope : (envelope kind length body crc).length = body.length + 4 := by simp [envelope]

@[simp] theorem frameKind_envelope : frameKind (envelope kind length body crc) = kind := rfl

@[simp] theorem frameBody_envelope : frameBody (envelope kind length body crc) = body := by simp [frameBody, envelope]

theorem envelope_eq_append : envelope kind length body crc = (kind :: length :: body) ++ be 2 crc.toNat := rfl

@[simp] theorem frameCovered_envelope : frameCovered (envelope kind length body crc) = kind :: length :: body := by
  have size : (envelope kind length body crc).length - 2 = (kind :: length :: body).length := by simp
  rw [frameCovered, size, envelope_eq_append, List.take_left]

theorem drop_crc_envelope :
    (envelope kind length body crc).drop (body.length + 4 - 2) = be 2 crc.toNat := by
  have size : body.length + 4 - 2 = (kind :: length :: body).length := by simp
  rw [size, envelope_eq_append, List.drop_left]

@[simp] theorem frameCrc_envelope : frameCrc (envelope kind length body crc) = crc := by
  rw [frameCrc, length_envelope, drop_crc_envelope, ofNat_ofBe_be 2 crc rfl]

theorem length_byte_envelope : ofBe (((envelope kind length body crc).drop 1).take 1) = length.toNat := by
  simp [envelope, ofBe]

@[simp] theorem bodyField_envelope (k n : Nat) :
    bodyField (envelope kind length body crc) k n = ofBe ((body.drop k).take n) := by
  rw [bodyField, frameBody_envelope]

/-- The checks on arrival, in the envelope's terms (R4 to R6). -/
theorem linkCheck_envelope (port : Port) :
    linkCheck port (envelope kind length body crc) =
      if 64 < body.length then some .length
      else if crc ≠ crc16 (kind :: length :: body) then some .crc
      else if length.toNat ≠ body.length then some .length
      else if bodySizeAllowed kind body = false then some .length
      else if directionAccepted port kind = false then some .misdirected
      else none := by
  have crc_wrong : ofBe (be 2 crc.toNat) ≠ (crc16 (kind :: length :: body)).toNat ↔ crc ≠ crc16 (kind :: length :: body) := by
    rw [ofBe_be, Nat.mod_eq_of_lt (show crc.toNat < 256 ^ 2 from crc.isLt), Ne, BitVec.toNat_inj]
  have too_long : (body.length + 4 < 4 ∨ 68 < body.length + 4) ↔ 64 < body.length := by omega
  simp only [linkCheck, drop_crc_envelope, frameCovered_envelope, frameBody_envelope, frameKind_envelope,
    length_byte_envelope, length_envelope, crc_wrong, too_long]
  congr!

theorem linkCheck_envelope_none (port : Port) :
    linkCheck port (envelope kind length body crc) = none ↔
      body.length ≤ 64 ∧ crc = crc16 (kind :: length :: body) ∧ length.toNat = body.length ∧
        bodySizeAllowed kind body = true ∧ directionAccepted port kind = true := by
  rw [linkCheck_envelope]
  split_ifs with long crc_wrong length_wrong size direction <;> simp_all
end

/-- Four bytes or more are an envelope. -/
theorem envelope_of_length {bytes : Frame} (h : 4 ≤ bytes.length) :
    bytes = envelope (frameKind bytes) (BitVec.ofNat 8 (ofBe ((bytes.drop 1).take 1))) (frameBody bytes) (frameCrc bytes) := by
  obtain ⟨kind, length, rest, rfl⟩ : ∃ kind length rest, bytes = kind :: length :: rest := by
    match bytes, h with
    | kind :: length :: rest, _ => exact ⟨kind, length, rest, rfl⟩
  obtain ⟨n, hn⟩ : ∃ n, rest.length = n + 2 := ⟨rest.length - 2, by simp at h; omega⟩
  have tail_length : (rest.drop n).length = 2 := by simp [hn]
  have crc_bytes : be 2 (frameCrc (kind :: length :: rest)).toNat = rest.drop n := by
    have : (kind :: length :: rest).drop ((kind :: length :: rest).length - 2) = rest.drop n := by simp [hn]
    rw [frameCrc, this]
    simpa [tail_length] using be_ofNat_ofBe (w := 16) (rest.drop n) (by rw [tail_length]; rfl)
  have body : frameBody (kind :: length :: rest) = rest.take n := by simp [frameBody, hn]
  rw [envelope, crc_bytes, body, List.take_append_drop]
  simp [frameKind, ofBe]

/-! ### The rows' frames as envelopes -/

/-- The body of a WEDGE frame (R20). -/
def wedgeBody (f : WedgeFrame) : List Byte :=
  [f.head] ++ be 2 f.wedge.toNat ++ be 3 f.track.toNat ++ be 2 f.a.toNat ++ be 2 f.b.toNat ++ be 2 f.c.toNat ++
    be 2 f.d.toNat ++ [f.flags]

/-- The body of a HOLD frame (R20). -/
def holdBody (f : HoldFrame) : List Byte := [f.head] ++ be 3 f.track.toNat ++ be 2 f.offset.toNat ++ [f.flags]

/-- The body of a MGMT frame (R20). -/
def requestBody (code object : Byte) (r : Request) : List Byte :=
  [code, r.token, object, r.count] ++ be 2 r.index.toNat ++ r.values.flatMap (fun v => be 4 v.toNat)

theorem wedge_bytes (f : WedgeFrame) : f.bytes = envelope 0x21 f.length (wedgeBody f) f.crc := by
  simp [WedgeFrame.bytes, envelope, wedgeBody, Config.kindWedge]

theorem hold_bytes (f : HoldFrame) : f.bytes = envelope 0x32 f.length (holdBody f) f.crc := by
  simp [HoldFrame.bytes, envelope, holdBody, Config.kindHold]

theorem opaque_bytes (kind : Byte) (f : OpaqueFrame) : f.bytes kind = envelope kind f.length f.body f.crc := rfl

theorem request_bytes (code object : Byte) (r : Request) :
    r.bytes code object = envelope 0x41 r.length (requestBody code object r) r.crc := by
  simp [Request.bytes, envelope, requestBody, Config.kindMgmt]

@[simp] theorem length_wedgeBody (f : WedgeFrame) : (wedgeBody f).length = 15 := by simp [wedgeBody]

@[simp] theorem length_holdBody (f : HoldFrame) : (holdBody f).length = 7 := by simp [holdBody]

theorem length_flatMap_be (n : Nat) (values : List (BitVec 32)) :
    (values.flatMap fun v => be n v.toNat).length = n * values.length := by
  induction values with
  | nil => rfl
  | cons v values ih =>
    simp only [List.flatMap_cons, List.length_append, length_be, List.length_cons, ih]
    ring

@[simp] theorem length_requestBody (code object : Byte) (r : Request) :
    (requestBody code object r).length = 6 + 4 * r.values.length := by
  simp [requestBody]; omega

/-! ### Which frames of the typed rows are taken (R4 to R6) -/

theorem take_envelope (kind length : Byte) (body : List Byte) (crc : BitVec 16) {n : Nat} (h : n = 2 + body.length) :
    (envelope kind length body crc).take n = kind :: length :: body := by
  have size : n = (kind :: length :: body).length := by simp; omega
  rw [size, envelope_eq_append, List.take_left]

theorem byte_eq_iff (b : Byte) (n : Nat) (h : n < 256) : b.toNat = n ↔ b = BitVec.ofNat 8 n := by
  rw [← BitVec.toNat_inj, BitVec.toNat_ofNat, Nat.mod_eq_of_lt (by omega)]

theorem wedge_taken (f : WedgeFrame) :
    linkCheck .front f.bytes = none ↔ f.length = 15 ∧ f.crc = crc16 (f.bytes.take 17) := by
  rw [wedge_bytes, take_envelope _ _ _ _ (by simp), linkCheck_envelope_none, length_wedgeBody, byte_eq_iff _ _ (by omega)]
  simp [bodySizeAllowed, directionAccepted, Config.kindWedge, and_comm]

theorem hold_taken (f : HoldFrame) :
    linkCheck .bench f.bytes = none ↔ f.length = 7 ∧ f.crc = crc16 (f.bytes.take 9) := by
  rw [hold_bytes, take_envelope _ _ _ _ (by simp), linkCheck_envelope_none, length_holdBody, byte_eq_iff _ _ (by omega)]
  simp [bodySizeAllowed, directionAccepted, Config.kindWedge, Config.kindHold, Config.kindFestat, Config.kindFecmd, and_comm]

theorem opaque_taken (port : Port) (kind : Byte) (f : OpaqueFrame)
    (h : (port = .front ∧ kind = 0x22) ∨ (port = .bench ∧ kind = 0x31)) :
    linkCheck port (f.bytes kind) = none ↔
      1 ≤ f.body.length ∧ f.body.length ≤ 64 ∧ f.length.toNat = f.body.length ∧
        f.crc = crc16 ((f.bytes kind).take (2 + f.body.length)) := by
  rw [opaque_bytes, take_envelope _ _ _ _ rfl, linkCheck_envelope_none]
  have size : bodySizeAllowed kind f.body = true ↔ 1 ≤ f.body.length ∧ f.body.length ≤ 64 := by
    rcases h with ⟨-, rfl⟩ | ⟨-, rfl⟩ <;>
      simp [bodySizeAllowed, Config.kindWedge, Config.kindHold, Config.kindPosition, Config.kindMgmt, Config.kindAnswer,
        Config.kindReport, Config.kindFestat, Config.kindFecmd]
  have direction : directionAccepted port kind = true := by
    rcases h with ⟨rfl, rfl⟩ | ⟨rfl, rfl⟩ <;> rfl
  rw [size, direction]
  tauto

theorem request_taken (code object : Byte) (r : Request) :
    linkCheck .bench (r.bytes code object) = none ↔
      r.values.length ≤ 14 ∧ r.count.toNat = r.values.length ∧ r.length.toNat = 6 + 4 * r.values.length ∧
        r.crc = crc16 ((r.bytes code object).take (8 + 4 * r.values.length)) := by
  rw [request_bytes, take_envelope _ _ _ _ (by rw [length_requestBody]; omega), linkCheck_envelope_none]
  have count : (requestBody code object r)[3]? = some r.count := rfl
  have size : bodySizeAllowed 0x41 (requestBody code object r) = true ↔ r.count.toNat = r.values.length := by
    rw [bodySizeAllowed, if_neg (by decide), if_neg (by decide), if_neg (by decide),
      if_pos (show (0x41 : Byte) = Config.kindMgmt from rfl), count]
    simp only [length_requestBody, beq_iff_eq]
    omega
  have direction : directionAccepted .bench 0x41 = true := rfl
  rw [size, direction, length_requestBody]
  constructor
  · rintro ⟨long, crc, len, count, -⟩
    exact ⟨by omega, count, len, crc⟩
  · rintro ⟨long, count, len, crc⟩
    exact ⟨by omega, crc, len, count, rfl⟩

/-- Settles O4: each typed row's frame is an envelope, whose checks `linkCheck_envelope_none` lists. -/
theorem typedFramesAreTakenByLengthAndCrc : Obligations.TypedFramesAreTakenByLengthAndCrc :=
  ⟨wedge_taken, hold_taken, opaque_taken, request_taken⟩

/-! ### The frames the part builds (R18, R19) -/

theorem buildFrame_eq (kind : Byte) (body : List Byte) :
    buildFrame kind body =
      envelope kind (BitVec.ofNat 8 body.length) body (crc16 (kind :: BitVec.ofNat 8 body.length :: body)) := rfl

/-- A frame the part builds passes the checks up to its direction. -/
theorem linkCheck_buildFrame (port : Port) {kind : Byte} {body : List Byte} (short : body.length ≤ 64)
    (size : bodySizeAllowed kind body = true) (direction : directionAccepted port kind = false) :
    linkCheck port (buildFrame kind body) = some .misdirected := by
  have length_byte : (BitVec.ofNat 8 body.length).toNat = body.length := by
    rw [BitVec.toNat_ofNat, Nat.mod_eq_of_lt (by omega)]
  rw [buildFrame_eq, linkCheck_envelope, if_neg (by omega), if_neg (not_not.mpr rfl), if_neg (not_not.mpr length_byte),
    if_neg (by simp [size]), if_pos direction]

@[simp] theorem length_beInt (n : Nat) (x : Int) : (beInt n x).length = n := length_be n _

theorem length_flatMap_beInt (n : Nat) (values : List Int) : (values.flatMap (beInt n)).length = n * values.length := by
  induction values with
  | nil => rfl
  | cons v values ih =>
    simp only [List.flatMap_cons, List.length_append, length_beInt, List.length_cons, ih]
    ring

theorem position_misdirected (port : Port) (p : Position) : linkCheck port (positionFrame p) = some .misdirected :=
  linkCheck_buildFrame port (by simp) (by simp [bodySizeAllowed, Config.kindWedge, Config.kindHold, Config.kindPosition])
    (by cases port <;> rfl)

theorem report_misdirected (port : Port) (kind : Nat) (stamp : BitVec 16) (record : List Byte) (h : record.length ≤ 20) :
    linkCheck port (reportFrame kind stamp record) = some .misdirected := by
  have third : (be 1 kind ++ be 2 stamp.toNat ++ be 1 record.length ++ record)[3]? = some (BitVec.ofNat 8 record.length) := rfl
  refine linkCheck_buildFrame port (by simp; omega) ?_ (by cases port <;> rfl)
  rw [bodySizeAllowed, if_neg (by decide), if_neg (by decide), if_neg (by decide), if_neg (by decide), if_neg (by decide),
    if_pos rfl, third]
  have small : record.length % 2 ^ 8 = record.length := Nat.mod_eq_of_lt (by omega)
  simp only [BitVec.toNat_ofNat, small]
  simp [h]
  omega

theorem answer_misdirected (port : Port) (m : Mgmt) (r : Reply) (s : State) (h : r.values.length ≤ 13) :
    linkCheck port (answerFrame m r s) = some .misdirected := by
  have sixth : ([m.code, m.token] ++ be 1 r.status.code ++ be 1 s.link.latch.summary ++ be 1 (if attention s then 1 else 0) ++
      [m.object] ++ be 1 r.values.length ++ be 2 m.index ++ r.values.flatMap (beInt 4))[6]? =
        some (BitVec.ofNat 8 r.values.length) := rfl
  refine linkCheck_buildFrame port (by simp; omega) ?_ (by cases port <;> rfl)
  rw [bodySizeAllowed, if_neg (by decide), if_neg (by decide), if_neg (by decide), if_neg (by decide), if_pos rfl, sixth]
  have small : r.values.length % 2 ^ 8 = r.values.length := Nat.mod_eq_of_lt (by omega)
  simp only [BitVec.toNat_ofNat, small]
  simp
  omega

/-- Settles O5: the part's frames are well-built envelopes of kinds that no port accepts. -/
theorem framesThePartBuildsAreMisdirected : Obligations.FramesThePartBuildsAreMisdirected := fun port =>
  ⟨position_misdirected port, report_misdirected port, answer_misdirected port⟩

end Sys2Proof.Envelopes
end

section
/-! PROOFS. Rows and bytes (R20, log 9): each typed row's fields read back from its bytes, the bytes written back from the
fields, and the one well-formed command that brings a sequence to the bench port. -/

namespace Sys2Proof.Envelopes

set_option Elab.async false

open Sys2Proof.Machine Sys2Proof.Safety Sys2Proof.LinkFailures

/-! ### Fields read back from a frame's bytes -/

theorem length_byte_read (kind length : Byte) (body : List Byte) (crc : BitVec 16) :
    BitVec.ofNat 8 (ofBe (((envelope kind length body crc).drop 1).take 1)) = length := by
  rw [length_byte_envelope, BitVec.ofNat_toNat, BitVec.setWidth_eq]

/-- A field of a body is read back from the bytes it was written as. -/
theorem field_read {w : Nat} (kind length : Byte) (body : List Byte) (crc : BitVec 16) (k n : Nat) (x : BitVec w)
    (size : 256 ^ n = 2 ^ w) (place : (body.drop k).take n = be n x.toNat) :
    BitVec.ofNat w (bodyField (envelope kind length body crc) k n) = x := by
  rw [bodyField_envelope, place, ofNat_ofBe_be n x size]

theorem byte_read (kind length : Byte) (body : List Byte) (crc : BitVec 16) (k : Nat) (b : Byte)
    (place : (body.drop k).take 1 = [b]) : BitVec.ofNat 8 (bodyField (envelope kind length body crc) k 1) = b := by
  simp [place, ofBe_singleton]

theorem wedgeFromBytes_bytes (f : WedgeFrame) : wedgeFromBytes f.bytes = f := by
  rw [wedge_bytes, wedgeFromBytes, length_byte_read, frameCrc_envelope,
    byte_read _ _ _ _ 0 f.head rfl, field_read _ _ _ _ 1 2 f.wedge rfl rfl, field_read _ _ _ _ 3 3 f.track rfl rfl,
    field_read _ _ _ _ 6 2 f.a rfl rfl, field_read _ _ _ _ 8 2 f.b rfl rfl, field_read _ _ _ _ 10 2 f.c rfl rfl,
    field_read _ _ _ _ 12 2 f.d rfl rfl, byte_read _ _ _ _ 14 f.flags rfl]

theorem holdFromBytes_bytes (f : HoldFrame) : holdFromBytes f.bytes = f := by
  rw [hold_bytes, holdFromBytes, length_byte_read, frameCrc_envelope, byte_read _ _ _ _ 0 f.head rfl,
    field_read _ _ _ _ 1 3 f.track rfl rfl, field_read _ _ _ _ 4 2 f.offset rfl rfl, byte_read _ _ _ _ 6 f.flags rfl]

theorem valuesFromBytes_flatMap (values : List (BitVec 32)) :
    valuesFromBytes (values.flatMap fun v => be 4 v.toNat) = values := by
  induction values with
  | nil => rfl
  | cons v values ih =>
    have first : valuesFromBytes (be 4 v.toNat ++ values.flatMap fun v => be 4 v.toNat) =
        BitVec.ofNat 32 (ofBe (be 4 v.toNat)) :: valuesFromBytes (values.flatMap fun v => be 4 v.toNat) := rfl
    rw [List.flatMap_cons, first, ofNat_ofBe_be 4 v rfl, ih]

section
variable (code object : Byte) (r : Request)

theorem requestCode_bytes : requestCode (r.bytes code object) = code := by
  rw [request_bytes, requestCode, byte_read _ _ _ _ 0 code rfl]

theorem requestObject_bytes : requestObject (r.bytes code object) = object := by
  rw [request_bytes, requestObject, byte_read _ _ _ _ 2 object rfl]

theorem requestFromBytes_bytes : requestFromBytes (r.bytes code object) = r := by
  have values : (requestBody code object r).drop 6 = r.values.flatMap fun v => be 4 v.toNat := rfl
  rw [request_bytes, requestFromBytes, length_byte_read, frameCrc_envelope, byte_read _ _ _ _ 1 r.token rfl,
    byte_read _ _ _ _ 3 r.count rfl, field_read _ _ _ _ 4 2 r.index rfl rfl, frameBody_envelope, values,
    valuesFromBytes_flatMap]
end

/-! ### The same bytes have the same effect -/

theorem exec_raw_wedge (arrival : Nat) (f : WedgeFrame) (s : State) :
    exec (.unknownKindUpstream arrival f.bytes) s = exec (.wedge arrival f) s := by
  have sorted : sortFront arrival f.bytes = takeWedge arrival (readWedge f) f.bytes := by
    funext s
    rw [sortFront, if_pos (show frameKind f.bytes = Config.kindWedge from rfl), wedgeFromBytes_bytes]
  simp only [exec, execUnknownKindUpstream, execWedge, sorted]

theorem exec_raw_hold (f : HoldFrame) (s : State) : exec (.unknownKindDownstream f.bytes) s = exec (.hold f) s := by
  have sorted : sortBench f.bytes = takeHold (readHold f) f.bytes := by
    funext s
    rw [sortBench, if_pos (show frameKind f.bytes = Config.kindHold from rfl), holdFromBytes_bytes]
  simp only [exec, execUnknownKindDownstream, execHold, sorted]

theorem sortBench_request (code object : Byte) (r : Request) (s : State) :
    sortBench (r.bytes code object) s = manage (actionOf code) (readRequest code object r) s := by
  have kind : frameKind (r.bytes code object) = Config.kindMgmt := rfl
  rw [sortBench, if_neg (by rw [kind]; decide), if_pos kind, requestCode_bytes, requestObject_bytes, requestFromBytes_bytes]

theorem exec_raw_request {c : Instr} {code object : Byte} {r : Request} (h : requestOf c = some (code, object, r))
    (s : State) : exec (.unknownKindDownstream (r.bytes code object)) s = exec c s := by
  have sorted : sortBench (r.bytes code object) = manage (actionOf code) (readRequest code object r) :=
    funext (sortBench_request code object r)
  rw [exec_requestOf h]
  simp only [exec, execUnknownKindDownstream, requestFrame, sorted]

/-- Settles O6: the fields are read back one by one, and the sorting of a raw frame then is the typed row's meaning. -/
theorem theFrameDecidesTheCommand : Obligations.TheFrameDecidesTheCommand :=
  ⟨wedgeFromBytes_bytes, holdFromBytes_bytes,
    fun code object r => ⟨requestCode_bytes code object r, requestObject_bytes code object r, requestFromBytes_bytes code object r⟩,
    exec_raw_wedge, fun _ _ _ => rfl, fun _ _ => rfl, exec_raw_hold, fun _ _ _ _ s h => exec_raw_request h s⟩

/-! ### Bytes written back from the fields -/

theorem be_ofBe_mod {n m : Nat} {bytes : List Byte} (size : bytes.length = n) (range : 256 ^ n = m) :
    be n (ofBe bytes % m) = bytes := by
  rw [← range, ← size, Nat.mod_eq_of_lt (ofBe_lt bytes), be_ofBe]

theorem be_ofBe_two (x y : Byte) : be 2 (ofBe [x, y] % 65536) = [x, y] :=
  be_ofBe_mod rfl (by norm_num)

theorem be_ofBe_three (x y z : Byte) : be 3 (ofBe [x, y, z] % 16777216) = [x, y, z] :=
  be_ofBe_mod rfl (by norm_num)

theorem be_ofBe_four (x y z w : Byte) : be 4 (ofBe [x, y, z, w] % 4294967296) = [x, y, z, w] :=
  be_ofBe_mod rfl (by norm_num)

theorem wedgeBody_fromBytes {bytes : Frame} (h : (frameBody bytes).length = 15) :
    wedgeBody (wedgeFromBytes bytes) = frameBody bytes := by
  obtain ⟨a, b, c, d, e, f, g, h, i, j, k, l, m, n, o, body⟩ :
      ∃ a b c d e f g h i j k l m n o, frameBody bytes = [a, b, c, d, e, f, g, h, i, j, k, l, m, n, o] := by
    generalize frameBody bytes = body at h
    match body, h with
    | [a, b, c, d, e, f, g, h, i, j, k, l, m, n, o], _ => exact ⟨a, b, c, d, e, f, g, h, i, j, k, l, m, n, o, rfl⟩
  simp [wedgeBody, wedgeFromBytes, bodyField, body, be_ofBe_two, be_ofBe_three, ofBe_singleton]

theorem holdBody_fromBytes {bytes : Frame} (h : (frameBody bytes).length = 7) :
    holdBody (holdFromBytes bytes) = frameBody bytes := by
  obtain ⟨a, b, c, d, e, f, g, body⟩ : ∃ a b c d e f g, frameBody bytes = [a, b, c, d, e, f, g] := by
    generalize frameBody bytes = body at h
    match body, h with
    | [a, b, c, d, e, f, g], _ => exact ⟨a, b, c, d, e, f, g, rfl⟩
  simp [holdBody, holdFromBytes, bodyField, body, be_ofBe_two, be_ofBe_three, ofBe_singleton]

theorem flatMap_valuesFromBytes : ∀ bytes : List Byte, bytes.length % 4 = 0 →
    ((valuesFromBytes bytes).flatMap fun v => be 4 v.toNat) = bytes
  | [], _ => rfl
  | b₁ :: b₂ :: b₃ :: b₄ :: rest, h => by
    have ih := flatMap_valuesFromBytes rest (by simp at h; omega)
    simp [valuesFromBytes, be_ofBe_four, ih]
  | [_], h | [_, _], h | [_, _, _], h => by simp at h

theorem requestBody_fromBytes {bytes : Frame} (h : ∃ n, (frameBody bytes).length = 6 + 4 * n) :
    requestBody (requestCode bytes) (requestObject bytes) (requestFromBytes bytes) = frameBody bytes := by
  obtain ⟨n, h⟩ := h
  obtain ⟨a, b, c, d, e, f, rest, body⟩ : ∃ a b c d e f rest, frameBody bytes = a :: b :: c :: d :: e :: f :: rest := by
    generalize frameBody bytes = body at h
    match body with
    | a :: b :: c :: d :: e :: f :: rest => exact ⟨a, b, c, d, e, f, rest, rfl⟩
    | [] | [_] | [_, _] | [_, _, _] | [_, _, _, _] | [_, _, _, _, _] => simp at h; omega
  have values := flatMap_valuesFromBytes rest (by simp [body] at h; omega)
  simp [requestBody, requestFromBytes, requestCode, requestObject, bodyField, body, be_ofBe_two, values, ofBe_singleton]

/-- The FESTAT or FECMD frame that bytes spell. -/
def opaqueFromBytes (bytes : Frame) : OpaqueFrame :=
  { length := BitVec.ofNat 8 (ofBe ((bytes.drop 1).take 1)), body := frameBody bytes, crc := frameCrc bytes }

theorem opaqueFromBytes_bytes (kind : Byte) (f : OpaqueFrame) : opaqueFromBytes (f.bytes kind) = f := by
  rw [opaque_bytes, opaqueFromBytes, length_byte_read, frameBody_envelope, frameCrc_envelope]

theorem bytes_opaqueFromBytes {bytes : Frame} (h : 4 ≤ bytes.length) :
    (opaqueFromBytes bytes).bytes (frameKind bytes) = bytes := (envelope_of_length h).symm

theorem length_frameBody {bytes : Frame} (h : 4 ≤ bytes.length) : (frameBody bytes).length = bytes.length - 4 := by
  conv_rhs => rw [envelope_of_length h]
  simp

theorem bytes_wedgeFromBytes {bytes : Frame} (kind : frameKind bytes = 0x21) (size : bytes.length = 19) :
    (wedgeFromBytes bytes).bytes = bytes := by
  conv_rhs => rw [envelope_of_length (bytes := bytes) (by omega), kind]
  rw [wedge_bytes, wedgeBody_fromBytes (by rw [length_frameBody (by omega), size])]
  rfl

theorem bytes_holdFromBytes {bytes : Frame} (kind : frameKind bytes = 0x32) (size : bytes.length = 11) :
    (holdFromBytes bytes).bytes = bytes := by
  conv_rhs => rw [envelope_of_length (bytes := bytes) (by omega), kind]
  rw [hold_bytes, holdBody_fromBytes (by rw [length_frameBody (by omega), size])]
  rfl

theorem bytes_requestFromBytes {bytes : Frame} (kind : frameKind bytes = 0x41) (size : 10 ≤ bytes.length)
    (values : (bytes.length - 10) % 4 = 0) :
    (requestFromBytes bytes).bytes (requestCode bytes) (requestObject bytes) = bytes := by
  conv_rhs => rw [envelope_of_length (bytes := bytes) (by omega), kind]
  rw [request_bytes, requestBody_fromBytes ⟨(bytes.length - 10) / 4, by rw [length_frameBody (by omega)]; omega⟩]
  rfl

/-! ### Every sequence is a command's frame -/

theorem frameKind_of_head? {bytes : Frame} {k : Byte} (h : bytes.head? = some k) : frameKind bytes = k := by
  cases bytes with
  | nil => cases h
  | cons b rest => simpa [frameKind] using h

/-- At the front port. -/
theorem exists_front_command (bytes : Frame) : ∃ c : Instr, c.wellFormed = true ∧ frontFrame c = some bytes := by
  by_cases raw : rawUpstream bytes = true
  · exact ⟨.unknownKindUpstream 0 bytes, raw, rfl⟩
  · simp only [rawUpstream, Bool.not_eq_true', Bool.not_eq_false, Bool.or_eq_true, Bool.and_eq_true, beq_iff_eq,
      decide_eq_true_eq] at raw
    rcases raw with ⟨kind, size⟩ | ⟨kind, size⟩
    · exact ⟨.wedge 0 (wedgeFromBytes bytes), rfl, congrArg some (bytes_wedgeFromBytes (frameKind_of_head? kind) size)⟩
    · refine ⟨.festat (opaqueFromBytes bytes), rfl, congrArg some ?_⟩
      rw [← frameKind_of_head? kind, bytes_opaqueFromBytes size]

/-- The row a request of given codes has. -/
def requestRow (code object : Byte) (r : Request) : Instr :=
  match code.toNat with
  | 1 => .get object r
  | 2 =>
    if setHasOwnRow object r then
      if object = 2 then .setHeadrec r
      else if object = 8 then .setCounter r
      else if object = 1 then .setWedgesPerRevolution r
      else .setAlertMask r
    else .set object r
  | 3 => .planStart object r
  | 4 => .planStop object r
  | 5 => .defectAdd object r
  | 6 => .defectRemove object r
  | 7 => .defectFlush object r
  | 8 => .alertClear object r
  | 9 => .runoutZero object r
  | 10 => .restart object r
  | _ => .unknownRequest code object r

theorem setRow_wellFormed (object : Byte) (r : Request) :
    (requestRow 2 object r).wellFormed = true ∧ requestOf (requestRow 2 object r) = some (2, object, r) := by
  simp only [requestRow, BitVec.reduceToNat]
  split_ifs with own headrec counter wedges
  · exact ⟨rfl, by rw [headrec]; rfl⟩
  · exact ⟨rfl, by rw [counter]; rfl⟩
  · refine ⟨?_, by rw [wedges]; rfl⟩
    simpa [setHasOwnRow, wedges, Instr.wellFormed] using own
  · have mask : object = 9 ∧ r.index = 1 := by
      simp only [setHasOwnRow, Bool.or_eq_true, Bool.and_eq_true, beq_iff_eq, headrec, counter, wedges, false_and,
        or_self, false_or] at own
      exact own
    exact ⟨by simp [Instr.wellFormed, mask.2], by rw [mask.1]; rfl⟩
  · exact ⟨by simpa [Instr.wellFormed] using own, rfl⟩

theorem requestRow_wellFormed (code object : Byte) (r : Request) :
    (requestRow code object r).wellFormed = true ∧ requestOf (requestRow code object r) = some (code, object, r) := by
  by_cases set : code = 2
  · exact set ▸ setRow_wellFormed object r
  have code_of : ∀ n < 256, code.toNat = n → code = BitVec.ofNat 8 n := fun n hn h => (byte_eq_iff code n hn).mp h
  unfold requestRow
  split
  case h_2 h => exact absurd (code_of 2 (by decide) h) set
  case h_11 h1 h2 h3 h4 h5 h6 h7 h8 h9 h10 =>
    refine ⟨?_, rfl⟩
    simp only [Instr.wellFormed, Bool.or_eq_true, beq_iff_eq, decide_eq_true_eq]
    by_cases zero : code.toNat = 0
    · exact .inl (code_of 0 (by decide) zero)
    · exact .inr (by simp only [imp_false] at *; omega)
  all_goals
    next h => exact ⟨rfl, by rw [code_of _ (by decide) h]; rfl⟩

/-- A well-formed request is the row its codes name. -/
theorem eq_requestRow {c : Instr} {code object : Byte} {r : Request} (wf : c.wellFormed = true)
    (h : requestOf c = some (code, object, r)) : c = requestRow code object r := by
  cases c with
  | set o q =>
    cases h
    have own : setHasOwnRow object r = false := by simpa [Instr.wellFormed] using wf
    simp [requestRow, own]
  | setAlertMask q =>
    cases h
    have index : r.index = 1 := by simpa [Instr.wellFormed] using wf
    simp [requestRow, setHasOwnRow, index]
  | setWedgesPerRevolution q =>
    cases h
    have covers : r.covers 1 = true := by simpa [Instr.wellFormed] using wf
    simp [requestRow, setHasOwnRow, covers]
  | unknownRequest k o q =>
    cases h
    have unknown : code = 0 ∨ 10 < code.toNat := by simpa [Instr.wellFormed] using wf
    unfold requestRow
    split
    case h_11 => rfl
    all_goals
      next h => rcases unknown with rfl | large <;> simp_all
  | get | setCounter | setHeadrec | planStart | planStop | defectAdd | defectRemove | defectFlush | alertClear | runoutZero
  | restart => cases h; rfl
  | _ => cases h

/-- The command whose frame at the bench port a sequence is. -/
def benchRow (bytes : Frame) : Instr :=
  if rawDownstream bytes then .unknownKindDownstream bytes
  else if frameKind bytes = 0x31 then .fecmd (opaqueFromBytes bytes)
  else if frameKind bytes = 0x32 then .hold (holdFromBytes bytes)
  else requestRow (requestCode bytes) (requestObject bytes) (requestFromBytes bytes)

theorem benchFrame_of_request {c : Instr} {code object : Byte} {r : Request} (h : requestOf c = some (code, object, r)) :
    benchFrame c = some (r.bytes code object) := by simp [benchFrame, h]

theorem benchRow_spec (bytes : Frame) : (benchRow bytes).wellFormed = true ∧ benchFrame (benchRow bytes) = some bytes := by
  unfold benchRow
  split
  · next raw => exact ⟨raw, rfl⟩
  next typed =>
    simp only [rawDownstream, Bool.not_eq_true', Bool.not_eq_false, Bool.or_eq_true, Bool.and_eq_true, beq_iff_eq,
      decide_eq_true_eq] at typed
    rcases typed with (⟨head, size⟩ | ⟨head, size⟩) | ⟨⟨head, size⟩, values⟩
    · have kind : frameKind bytes = 0x31 := frameKind_of_head? head
      rw [if_pos kind]
      refine ⟨rfl, congrArg some ?_⟩
      rw [show Config.kindFecmd = frameKind bytes from kind.symm, bytes_opaqueFromBytes size]
    · have kind : frameKind bytes = 0x32 := frameKind_of_head? head
      rw [if_neg (by rw [kind]; decide), if_pos kind]
      exact ⟨rfl, congrArg some (bytes_holdFromBytes kind size)⟩
    · have kind : frameKind bytes = 0x41 := frameKind_of_head? head
      rw [if_neg (by rw [kind]; decide), if_neg (by rw [kind]; decide)]
      obtain ⟨wf, request⟩ := requestRow_wellFormed (requestCode bytes) (requestObject bytes) (requestFromBytes bytes)
      exact ⟨wf, by rw [benchFrame_of_request request, bytes_requestFromBytes kind size values]⟩

theorem rawDownstream_fecmd (f : OpaqueFrame) : rawDownstream (f.bytes 0x31) = false := by
  simp [rawDownstream, opaque_bytes, Config.kindFecmd, envelope]

theorem rawDownstream_hold (f : HoldFrame) : rawDownstream f.bytes = false := by
  simp [rawDownstream, hold_bytes, Config.kindHold, envelope]

theorem rawDownstream_request (code object : Byte) (r : Request) : rawDownstream (r.bytes code object) = false := by
  have size : (r.bytes code object).length = 10 + 4 * r.values.length := by
    rw [request_bytes, length_envelope, length_requestBody]; omega
  have kind : (r.bytes code object).head? = some Config.kindMgmt := rfl
  simp [rawDownstream, size, kind]

theorem eq_benchRow {c : Instr} {bytes : Frame} (wf : c.wellFormed = true) (h : benchFrame c = some bytes) :
    c = benchRow bytes := by
  rcases request : requestOf c with _ | ⟨code, object, r⟩
  · cases c with
    | fecmd f =>
      cases h
      rw [benchRow, show Config.kindFecmd = 0x31 from rfl, rawDownstream_fecmd, if_neg (by decide),
        if_pos (show frameKind (f.bytes 0x31) = 0x31 from rfl), opaqueFromBytes_bytes]
    | hold f =>
      cases h
      have kind : frameKind f.bytes = 0x32 := rfl
      rw [benchRow, rawDownstream_hold, if_neg (by decide), if_neg (by rw [kind]; decide), if_pos kind,
        holdFromBytes_bytes]
    | unknownKindDownstream raw =>
      cases h
      exact (if_pos wf).symm
    | powerOnReset | wedge | festat | unknownKindUpstream | wedgeMissed | idleTimeout | timeoutWait
    | budgetRefreshTimerExpiry | frontTransmitEnd | benchTransmitEnd => cases h
    | _ => cases request
  · rw [benchFrame_of_request request] at h
    cases h
    have kind : frameKind (r.bytes code object) = 0x41 := rfl
    rw [benchRow, rawDownstream_request, if_neg (by decide), if_neg (by rw [kind]; decide), if_neg (by rw [kind]; decide),
      requestCode_bytes, requestObject_bytes, requestFromBytes_bytes]
    exact eq_requestRow wf request

/-- Settles O7: at the front port by cases on the row the bytes can have, at the bench port by `benchRow`. -/
theorem everyDelimitedSequenceIsACommand : Obligations.EveryDelimitedSequenceIsACommand := fun bytes =>
  ⟨exists_front_command bytes, benchRow bytes, benchRow_spec bytes, fun _ h => eq_benchRow h.1 h.2⟩

end Sys2Proof.Envelopes
end

section
/-! PROOFS. The CRC's residue (R3): one step of the shift register loses nothing, so a register is 0 after two more bytes exactly
when these bytes are what it held. -/

namespace Sys2Proof.Crc

set_option Elab.async false

open Sys2Proof.Machine

/-- The bit shifted in is the bit shifted out: the generator's last term is 1. -/
theorem getLsbD_crcBit_zero (c : BitVec 16) : (crcBit c).getLsbD 0 = c.msb := by
  cases h : c.msb <;> simp [crcBit, h]

theorem getLsbD_crcBit_succ (c : BitVec 16) {i : Nat} (hi : i + 1 < 16) :
    (crcBit c).getLsbD (i + 1) = (c.getLsbD i ^^ (c.msb && (0x1021#16).getLsbD (i + 1))) := by
  have small : i < 16 := by omega
  cases h : c.msb <;> simp [crcBit, h, hi, BitVec.getLsbD_eq_getElem small]

/-- The shift register can be run backwards. -/
theorem crcBit_injective {c d : BitVec 16} (h : crcBit c = crcBit d) : c = d := by
  have top : c.msb = d.msb := by rw [← getLsbD_crcBit_zero, h, getLsbD_crcBit_zero]
  apply BitVec.eq_of_getLsbD_eq
  intro i hi
  rcases Nat.lt_or_ge (i + 1) 16 with below | last
  · have bit := getLsbD_crcBit_succ c below
    rw [h, getLsbD_crcBit_succ d below, top] at bit
    simpa using bit.symm
  · obtain rfl : i = 15 := by omega
    simpa [BitVec.msb_eq_getLsbD_last] using top

/-- Eight steps of the shift register. -/
def crcShift (c : BitVec 16) : BitVec 16 := crcBit (crcBit (crcBit (crcBit (crcBit (crcBit (crcBit (crcBit c)))))))

theorem crcByte_eq (c : BitVec 16) (b : Byte) : crcByte c b = crcShift (c ^^^ (b.zeroExtend 16 <<< 8)) := rfl

theorem crcShift_injective {c d : BitVec 16} (h : crcShift c = crcShift d) : c = d := by
  unfold crcShift at h
  iterate 8 replace h := crcBit_injective h
  exact h

theorem crcBit_of_clear {c : BitVec 16} (h : c.msb = false) : crcBit c = c <<< 1 := by simp [crcBit, h]

/-- A byte in the low half reaches the high half unchanged. -/
theorem crcShift_low (b : Byte) : crcShift (b.zeroExtend 16) = b.zeroExtend 16 <<< 8 := by
  have clear : ∀ k < 8, (b.zeroExtend 16 <<< k).msb = false := by
    intro k hk
    rw [BitVec.msb_eq_getLsbD_last, BitVec.getLsbD_shiftLeft, BitVec.getLsbD_setWidth,
      BitVec.getLsbD_of_ge b (16 - 1 - k) (by omega)]
    simp
  have step : ∀ k < 8, crcBit (b.zeroExtend 16 <<< k) = b.zeroExtend 16 <<< (k + 1) := by
    intro k hk
    rw [crcBit_of_clear (clear k hk), BitVec.shiftLeft_add]
  have start : b.zeroExtend 16 = b.zeroExtend 16 <<< 0 := (BitVec.shiftLeft_zero _).symm
  rw [crcShift, start, step 0 (by omega), step 1 (by omega), step 2 (by omega), step 3 (by omega), step 4 (by omega),
    step 5 (by omega), step 6 (by omega), step 7 (by omega), BitVec.shiftLeft_zero]

theorem xor_eq_zero {c d : BitVec 16} : c ^^^ d = 0 ↔ c = d := by
  constructor
  · intro h
    calc c = (c ^^^ d) ^^^ d := by rw [BitVec.xor_assoc, BitVec.xor_self, BitVec.xor_zero]
      _ = d := by rw [h]; exact BitVec.zero_xor
  · rintro rfl
    exact BitVec.xor_self

theorem crcShift_zero : crcShift 0 = 0 := by decide

theorem crcByte_eq_zero (c : BitVec 16) (b : Byte) : crcByte c b = 0 ↔ c = b.zeroExtend 16 <<< 8 := by
  rw [crcByte_eq, ← xor_eq_zero (c := c)]
  exact ⟨fun h => crcShift_injective (h.trans crcShift_zero.symm), fun h => by rw [h, crcShift_zero]⟩

/-- Two bytes bring the register to 0 exactly when they are its own two bytes, the high one first. -/
theorem crcByte_crcByte_eq_zero (c : BitVec 16) (high low : Byte) :
    crcByte (crcByte c high) low = 0 ↔ c = (high.zeroExtend 16 <<< 8) ^^^ low.zeroExtend 16 := by
  rw [crcByte_eq_zero, crcByte_eq, ← crcShift_low low]
  constructor
  · intro h
    rw [← crcShift_injective h, BitVec.xor_comm c, ← BitVec.xor_assoc, BitVec.xor_self, BitVec.zero_xor]
  · rintro rfl
    rw [BitVec.xor_comm _ (low.zeroExtend 16), BitVec.xor_assoc, BitVec.xor_self, BitVec.xor_zero]

theorem bytes_of_word (v : BitVec 16) :
    v = ((BitVec.ofNat 8 (v.toNat / 256)).zeroExtend 16 <<< 8) ^^^ (BitVec.ofNat 8 v.toNat).zeroExtend 16 := by
  apply BitVec.eq_of_getLsbD_eq
  intro i hi
  have high : (BitVec.ofNat 8 (v.toNat / 256)) = v.extractLsb' 8 8 := by
    apply BitVec.eq_of_toNat_eq
    simp [Nat.shiftRight_eq_div_pow]
  have low : BitVec.ofNat 8 v.toNat = v.extractLsb' 0 8 := by
    apply BitVec.eq_of_toNat_eq
    simp
  rw [high, low]
  rcases Nat.lt_or_ge i 8 with below | above
  · simp [below, hi]
  · simp [hi, show ¬i < 8 by omega, show i - 8 < 8 by omega, show 8 + (i - 8) = i by omega]

/-- Settles O3: the register after the sequence is 0 after two further bytes exactly when these are its own. -/
theorem crcCheckValueAndResidue : Obligations.CrcCheckValueAndResidue := by
  refine ⟨by decide +kernel, fun bytes v => ?_⟩
  have two_bytes : crc16 (bytes ++ be 2 v.toNat) =
      crcByte (crcByte (crc16 bytes) (BitVec.ofNat 8 (v.toNat / 256))) (BitVec.ofNat 8 v.toNat) := by
    simp [crc16, be]
  rw [two_bytes, crcByte_crcByte_eq_zero, ← bytes_of_word, eq_comm]

end Sys2Proof.Crc
end

section
/-! PROOFS. What each command does, said once: the failure, the block that takes the frame, or the event (R10, R11, R144). The
statements that need no more than this follow. -/

namespace Sys2Proof.Commands

set_option Elab.async false

open Sys2Proof.Machine Sys2Proof.Safety Sys2Proof.LinkFailures Sys2Proof.Envelopes

/-! ### The effect of a command -/

/-- What a command's next state can be. A frame reaches the block of its kind whichever row brings it (log 9); the last
hypothesis of `wedge`, `hold` and the requests names the row where the command is well formed. -/
inductive Effect (c : Instr) (s : State) : State → Prop
  | powerOn : c = .powerOnReset → Effect c s (powerOn s)
  | frontFailed (cause : LinkCause) : Effect c s (frontLinkError cause s)
  | benchFailed (cause : LinkCause) : Effect c s (benchLinkError cause s)
  | wedge (arrival : Nat) (bytes : Frame) : frontFrame c = some bytes → linkCheck .front bytes = none →
      frameKind bytes = 0x21 → (c.wellFormed = true → ∃ f, c = .wedge arrival f) →
      Effect c s (takeWedge arrival (readWedge (wedgeFromBytes bytes)) bytes s)
  | status (bytes : Frame) : Effect c s (offerStatus bytes s)
  | hold (bytes : Frame) : (c.wellFormed = true → ∃ f, c = .hold f) →
      Effect c s (takeHold (readHold (holdFromBytes bytes)) bytes s)
  | fifo (bytes : Frame) : Effect c s (offerFifo bytes s)
  | discarded : Effect c s (raise .answerDropped (bump .answerDrop s))
  | request (code object : Byte) (r : Request) : (c.wellFormed = true → requestOf c = some (code, object, r)) →
      s.out.answer.length < 4 →
      Effect c s (answer (readRequest code object r) (actionOf code (readRequest code object r) s).2
        (actionOf code (readRequest code object r) s).1)
  | missed : Effect c s (declareMissed s)
  | idle : Effect c s (idleExpiry s)
  | wait : Effect c s (waitTimerExpiry s)
  | refresh : Effect c s (refreshTimerExpiry s)
  | frontEnd : Effect c s (frontTransmitEnd s)
  | benchEnd : Effect c s (benchTransmitEnd s)

/-- A taken WEDGE frame has 19 bytes, so no well-formed raw row brings it. -/
theorem rawUpstream_wedge {bytes : Frame} (taken : linkCheck .front bytes = none) (kind : frameKind bytes = 0x21) :
    rawUpstream bytes = false := by
  have long : 4 ≤ bytes.length := by
    by_contra short
    simp [linkCheck, show bytes.length < 4 by omega] at taken
  have form := envelope_of_length long
  rw [form, kind, linkCheck_envelope_none] at taken
  obtain ⟨-, -, -, size, -⟩ := taken
  have body : (frameBody bytes).length = 15 := by simpa [bodySizeAllowed, Config.kindWedge] using size
  rw [length_frameBody long] at body
  have head : bytes.head? = some Config.kindWedge := by rw [form, kind]; rfl
  simp [rawUpstream, head, show bytes.length = 19 by omega]

theorem rawDownstream_hold_taken {bytes : Frame} (taken : linkCheck .bench bytes = none) (kind : frameKind bytes = 0x32) :
    rawDownstream bytes = false := by
  have long : 4 ≤ bytes.length := by
    by_contra short
    simp [linkCheck, show bytes.length < 4 by omega] at taken
  have form := envelope_of_length long
  rw [form, kind, linkCheck_envelope_none] at taken
  obtain ⟨-, -, -, size, -⟩ := taken
  have body : (frameBody bytes).length = 7 := by simpa [bodySizeAllowed, Config.kindWedge, Config.kindHold] using size
  rw [length_frameBody long] at body
  have head : bytes.head? = some Config.kindHold := by rw [form, kind]; rfl
  simp [rawDownstream, head, show bytes.length = 11 by omega]

theorem rawDownstream_request_taken {bytes : Frame} (taken : linkCheck .bench bytes = none)
    (kind : frameKind bytes = 0x41) : rawDownstream bytes = false := by
  have long : 4 ≤ bytes.length := by
    by_contra short
    simp [linkCheck, show bytes.length < 4 by omega] at taken
  have form := envelope_of_length long
  rw [form, kind, linkCheck_envelope_none] at taken
  obtain ⟨-, -, -, size, -⟩ := taken
  rw [bodySizeAllowed, if_neg (by decide), if_neg (by decide), if_neg (by decide),
    if_pos (show (0x41 : Byte) = Config.kindMgmt from rfl)] at size
  split at size
  · have body := beq_iff_eq.mp size
    rw [length_frameBody long] at body
    have head : bytes.head? = some Config.kindMgmt := by rw [form, kind]; rfl
    simp [rawDownstream, head, show 10 ≤ bytes.length by omega, show (bytes.length - 10) % 4 = 0 by omega]
  · cases size

theorem answerRoom_iff {s : State} : answerRoom s = true ↔ s.out.answer.length < 4 := decide_eq_true_iff

theorem manage_effect {c : Instr} {s : State} (code object : Byte) (r : Request)
    (row : c.wellFormed = true → requestOf c = some (code, object, r)) :
    Effect c s (manage (actionOf code) (readRequest code object r) s) := by
  unfold manage
  split
  · next room => exact .request code object r row (answerRoom_iff.mp room)
  · exact .discarded

theorem frontChecked_effect {c : Instr} {s : State} {bytes : Frame} {take : State → State}
    (taken : linkCheck .front bytes = none → Effect c s (take s)) : Effect c s (frontChecked bytes take s) := by
  unfold frontChecked
  split
  · exact .frontFailed _
  · next h => exact taken h

theorem benchChecked_effect {c : Instr} {s : State} {bytes : Frame} {take : State → State}
    (taken : linkCheck .bench bytes = none → Effect c s (take s)) : Effect c s (benchChecked bytes take s) := by
  unfold benchChecked
  split
  · exact .benchFailed _
  · next h => exact taken h

theorem sortFront_effect {s : State} {arrival : Nat} {bytes : Frame} (taken : linkCheck .front bytes = none) :
    Effect (.unknownKindUpstream arrival bytes) s (sortFront arrival bytes s) := by
  unfold sortFront
  split
  · next kind =>
    refine .wedge arrival bytes rfl taken kind fun wf => ?_
    have raw : rawUpstream bytes = true := wf
    rw [rawUpstream_wedge taken kind] at raw
    cases raw
  · exact .status bytes

theorem sortBench_effect {s : State} {bytes : Frame} (taken : linkCheck .bench bytes = none) :
    Effect (.unknownKindDownstream bytes) s (sortBench bytes s) := by
  unfold sortBench
  split_ifs with hold mgmt
  · refine .hold bytes fun wf => ?_
    have raw : rawDownstream bytes = true := wf
    rw [rawDownstream_hold_taken taken hold] at raw
    cases raw
  · refine manage_effect _ _ _ fun wf => ?_
    have raw : rawDownstream bytes = true := wf
    rw [rawDownstream_request_taken taken mgmt] at raw
    cases raw
  · exact .fifo bytes

theorem request_effect {c : Instr} {code object : Byte} {r : Request} (s : State)
    (row : requestOf c = some (code, object, r)) : ∃ t, exec c s = .next t ∧ Effect c s t :=
  ⟨_, exec_requestOf row s, benchChecked_effect fun _ => manage_effect code object r fun _ => row⟩

/-- Every command has a next state, and `Effect` lists what it can be. -/
theorem exec_effect (c : Instr) (s : State) : ∃ t, exec c s = .next t ∧ Effect c s t := by
  cases c with
  | powerOnReset => exact ⟨_, rfl, .powerOn rfl⟩
  | wedge arrival f =>
    refine ⟨_, rfl, frontChecked_effect fun taken => ?_⟩
    have effect := Effect.wedge (c := .wedge arrival f) (s := s) arrival f.bytes rfl taken rfl fun _ => ⟨f, rfl⟩
    rwa [wedgeFromBytes_bytes] at effect
  | festat f => exact ⟨_, rfl, frontChecked_effect fun _ => .status _⟩
  | unknownKindUpstream arrival bytes => exact ⟨_, rfl, frontChecked_effect sortFront_effect⟩
  | fecmd f => exact ⟨_, rfl, benchChecked_effect fun _ => .fifo _⟩
  | hold f =>
    refine ⟨_, rfl, benchChecked_effect fun _ => ?_⟩
    have effect := Effect.hold (c := .hold f) (s := s) f.bytes fun _ => ⟨f, rfl⟩
    rwa [holdFromBytes_bytes] at effect
  | unknownKindDownstream bytes => exact ⟨_, rfl, benchChecked_effect sortBench_effect⟩
  | get | set | setCounter | setAlertMask | setWedgesPerRevolution | setHeadrec | planStart | planStop | defectAdd
  | defectRemove | defectFlush | alertClear | runoutZero | restart | unknownRequest => exact request_effect s rfl
  | wedgeMissed => exact ⟨_, rfl, .missed⟩
  | idleTimeout => exact ⟨_, rfl, .idle⟩
  | timeoutWait => exact ⟨_, rfl, .wait⟩
  | budgetRefreshTimerExpiry => exact ⟨_, rfl, .refresh⟩
  | frontTransmitEnd => exact ⟨_, rfl, .frontEnd⟩
  | benchTransmitEnd => exact ⟨_, rfl, .benchEnd⟩

theorem effect_of_exec {c : Instr} {s t : State} (h : exec c s = .next t) : Effect c s t := by
  obtain ⟨u, run, effect⟩ := exec_effect c s
  rw [h] at run
  cases run
  exact effect

/-! ### Invariants of a step -/

/-- An invariant that does not read the queue of waiting commands, and that every effect keeps, is kept by every step. -/
theorem step_keeps {P : State → Prop} (queue : ∀ s rest, P s → P { s with pending := rest })
    (keeps : ∀ c s t, P s → Effect c s t → P t) (s t : State) (hs : P s) (h : step s = .next t) : P t := by
  unfold step at h
  split at h
  · cases h; exact hs
  · exact keeps _ _ _ (queue _ _ hs) (effect_of_exec h)

/-! ### Steps, the queue, the resets -/

/-- Settles O1: the two branches of `step`. -/
theorem stepRunsTheFrontCommand : Obligations.StepRunsTheFrontCommand := by
  intro s
  constructor
  · intro c rest h
    simp only [step, h]
  · intro h
    simp only [step, h]

@[simp] theorem writeCell_pending (o : Obj) (k : Nat) (v : Int) (s : State) : (writeCell o k v s).pending = s.pending := by
  cases o with
  | setting => simp only [writeCell, writeSetting]; split <;> simp
  | headrec | lintab | runout | defect | planstep | state | counter | alert => rfl

theorem writeCells_pending (o : Obj) (values : List Int) : ∀ (k : Nat) (s : State), (writeCells o k values s).pending = s.pending := by
  induction values with
  | nil => intro k s; rfl
  | cons v values ih => intro k s; rw [writeCells, ih, writeCell_pending]

theorem setCells_pending (m : Mgmt) (s : State) : (setCells m s).1.pending = s.pending := by
  unfold setCells
  split
  · rfl
  · split
    · rfl
    · exact writeCells_pending _ _ _ _

theorem defectAddAction_pending (m : Mgmt) (s : State) : (defectAddAction m s).1.pending = s.pending := by
  have kept := (Laws.addDefect_frame (m.value 0).toNat (m.value 1).toNat s).1
  unfold defectAddAction
  split
  · split
    all_goals
      next heq => rw [heq] at kept; exact kept
  · rfl

theorem actionOf_pending (code : Byte) (m : Mgmt) (s : State) : (actionOf code m s).1.pending = s.pending := by
  unfold actionOf
  generalize code.toNat = n
  split
  · unfold getCells; split <;> (try split) <;> rfl
  · exact setCells_pending m s
  · unfold planStartAction; split <;> simp
  · simp [planStopAction]
  · exact defectAddAction_pending m s
  · unfold defectRemoveAction; split <;> simp
  · unfold defectFlushAction; split <;> simp
  · unfold alertClearAction; split <;> simp
  · unfold runoutZeroAction; split_ifs <;> simp
  · rfl
  · rfl

/-- No effect touches the queue of waiting commands. -/
theorem effect_pending {c : Instr} {s t : State} (h : Effect c s t) : t.pending = s.pending := by
  cases h with
  | powerOn => rfl
  | request => simp [actionOf_pending]
  | _ => simp

/-- Settles O2. -/
theorem everyCommandCompletes : Obligations.EveryCommandCompletes := fun c s =>
  (exec_effect c s).imp fun _ h => ⟨h.1, effect_pending h.2⟩

/-- Settles O13: the timer's two states. -/
theorem refreshTimerExpirySetsTheBudget : Obligations.RefreshTimerExpirySetsTheBudget := by
  intro s
  constructor
  · intro running
    simp only [exec, execBudgetRefreshTimerExpiry, refreshTimerExpiry, running, if_true]
    rfl
  · intro stopped
    simp [exec, execBudgetRefreshTimerExpiry, refreshTimerExpiry, stopped]

/-! ### Requests -/

/-- An admitted request is executed and answered (R136, R143). -/
theorem exec_admitted {c : Instr} {code object : Byte} {r : Request} {s : State} (h : Admitted c code object r s) :
    exec c s = .next (answer (readRequest code object r) (actionOf code (readRequest code object r) s).2
      (actionOf code (readRequest code object r) s).1) := by
  have room : answerRoom s = true := answerRoom_iff.mpr h.room
  rw [exec_requestOf h.request, requestFrame, benchChecked, h.taken]
  simp only [manage, room, if_true]

theorem summary_eq (l : Latch) : l.summary = summary l := by
  simp [Latch.summary, summary, flagWeight]

/-- The ANSWER frame in the manual's words (R19, R20). -/
theorem answerFrame_eq (code object : Byte) (q : Request) (r : Reply) (s : State) :
    answerFrame (readRequest code object q) r s =
      answerBytes code q.token r.status.code s.link.latch (attention s) object q.index r.values := by
  have flag : BitVec.ofNat 8 (if attention s then 1 else 0) = if attention s then 1 else 0 := by
    cases attention s <;> rfl
  simp [answerFrame, answerBytes, summary_eq, flag, readRequest, Config.kindAnswer, be]

/-- An answer behind a frame that is being sent waits in its queue. -/
theorem answer_eq_answered (code object : Byte) (q : Request) (r : Reply) (s : State) (busy : s.out.sending.isSome = true) :
    answer (readRequest code object q) r s =
      answered (answerBytes code q.token r.status.code s.link.latch (attention s) object q.index r.values) s := by
  obtain ⟨f, hf⟩ := Option.isSome_iff_exists.mp busy
  simp [answer, answerFrame_eq, offerAnswer, answered, admitted, hf, setLatch]

/-- An admitted request that leaves a frame being sent: its action's state with the answer behind the others. -/
theorem exec_answered {c : Instr} {code object : Byte} {q : Request} {s : State} (h : Admitted c code object q s) (t : State)
    (r : Reply) (act : actionOf code (readRequest code object q) s = (t, r)) (busy : t.out.sending.isSome = true) :
    exec c s = .next
      (answered (answerBytes code q.token r.status.code t.link.latch (attention t) object q.index r.values) t) := by
  rw [exec_admitted h, act, answer_eq_answered _ _ _ _ _ busy]

/-- Settles O45: the ANSWER queue's capacity is 4. -/
theorem fullAnswerQueueDiscardsTheRequest : Obligations.FullAnswerQueueDiscardsTheRequest := by
  intro c code object q s request taken full
  have no_room : answerRoom s = false := by
    rw [← Bool.not_eq_true, answerRoom_iff]
    omega
  rw [exec_requestOf request, requestFrame, benchChecked, taken]
  simp only [manage, no_room, Bool.false_eq_true, if_false, raise_bump_eq]
  rfl

theorem attention_restart (s : State) : attention (restartState s) = false := by
  simp [attention, restartState]

/-- Settles O51: RESTART's clearing with its answer, which a free transmitter takes at once; power-on reset as it is. -/
theorem resetsKeepAndClear : Obligations.ResetsKeepAndClear := by
  refine ⟨fun object q s h => ?_, fun s => rfl⟩
  have act : actionOf 10 (readRequest 10 object q) s = (restartState s, { status := .done }) := rfl
  have kept : (s.defects.filter fun c => c.2.state == .static) = s.defects.filter fun c => decide (c.2.state = .static) := rfl
  have latch : (restartState s).link.latch = {} := rfl
  rw [exec_admitted h, act]
  simp only [answer, answerFrame_eq, attention_restart, latch]
  rcases sending : s.out.sending with _ | f <;>
    simp [offerAnswer, setLatch, restartState, restartLink, restartOutput, restartDefects, sending, admitted, kept,
      grantOutput, roundChoice, roundClass, RoundClass.queue, roundGrant, budgetOf, Config.refreshMs, Status.code]

/-! ### Passenger frames (R10, R12, R14, R137) -/

theorem not_kind_of_unknown {k : Byte} (h : unknownKind k = true) :
    k ≠ Config.kindWedge ∧ k ≠ Config.kindHold ∧ k ≠ Config.kindMgmt := by
  simp only [unknownKind, Bool.not_eq_true', List.contains_eq_mem, decide_eq_false_iff_not, List.mem_cons, not_or] at h
  exact ⟨h.1, h.2.2.2.1, h.2.2.2.2.1⟩

theorem exec_status_traffic {c : Instr} {bytes : Frame} {s : State}
    (h : (∃ f : OpaqueFrame, c = .festat f ∧ bytes = f.bytes 0x22) ∨
      (∃ arrival : Nat, c = .unknownKindUpstream arrival bytes ∧ unknownKind (frameKind bytes) = true))
    (taken : linkCheck .front bytes = none) : exec c s = .next (offerStatus bytes s) := by
  rcases h with ⟨f, rfl, rfl⟩ | ⟨arrival, rfl, unknown⟩
  · simp only [exec, execFestat, frontChecked, Config.kindFestat, taken]
  · simp only [exec, execUnknownKindUpstream, frontChecked, taken, sortFront, (not_kind_of_unknown unknown).1, if_false]

theorem exec_fifo_traffic {c : Instr} {bytes : Frame} {s : State}
    (h : (∃ f : OpaqueFrame, c = .fecmd f ∧ bytes = f.bytes 0x31) ∨
      (c = .unknownKindDownstream bytes ∧ unknownKind (frameKind bytes) = true))
    (taken : linkCheck .bench bytes = none) : exec c s = .next (offerFifo bytes s) := by
  rcases h with ⟨f, rfl, rfl⟩ | ⟨rfl, unknown⟩
  · simp only [exec, execFecmd, benchChecked, Config.kindFecmd, taken]
  · obtain ⟨-, hold, mgmt⟩ := not_kind_of_unknown unknown
    simp only [exec, execUnknownKindDownstream, benchChecked, taken, sortBench, hold, mgmt, if_false]

/-- The one frame waiting, in the STATUS class, is granted at once (R142). -/
theorem grantOutput_only_status (o : Output) (f : Frame) (loop : o.loop = []) (answer : o.answer = []) (report : o.report = [])
    (status : o.status = []) (round : o.round ≤ 6) :
    grantOutput { o with status := o.status ++ [f] } =
      { o with sending := some f, round := (o.round + 1) % 7 } := by
  obtain ⟨loop', answer', report', status', round', budget, timer, sending⟩ := o
  simp only at loop answer report status round
  subst loop answer report status
  have next : (if round' < 6 then round' + 1 else 0) = (round' + 1) % 7 := by split <;> omega
  have choice : roundChoice ⟨[], [], [], [f], round', budget, timer, sending⟩ = some .status := by
    cases position : roundClass round' <;> simp [roundChoice, position, RoundClass.queue]
  rw [List.nil_append, Laws.grantOutput_round _ _ rfl choice]
  simp only [roundGrant, next, RoundClass.queue, List.head?_cons, List.tail_cons]

/-- Settles O10: the three states of the STATUS queue and the transmitter. -/
theorem statusTrafficIsPassedThrough : Obligations.StatusTrafficIsPassedThrough := by
  intro c bytes s row taken
  rw [exec_status_traffic row taken]
  refine ⟨fun room busy => ?_, fun full => ?_, fun free loop answer report status round => ?_⟩
  · obtain ⟨f, hf⟩ := Option.isSome_iff_exists.mp busy
    rw [Laws.offerStatus_room _ _ room, Laws.admitted_sending _ f (by simpa using hf)]
  · rw [Laws.offerStatus_full _ _ full]
    rfl
  · rw [Laws.offerStatus_room _ _ (by simp [status, Config.statusCapacity]), Laws.admitted_free _ (by simpa using free),
      grantOutput_only_status _ _ loop answer report status round]

/-- Settles O11: the FIFO with room and without, the transmitter at work and idle. -/
theorem downstreamTrafficPassesTheFifo : Obligations.DownstreamTrafficPassesTheFifo := by
  refine ⟨fun c bytes s row taken => ?_, fun s => ⟨fun sending => ?_, fun idle => ?_⟩⟩
  · rw [exec_fifo_traffic row taken]
    refine ⟨fun room => ?_, fun full => ?_⟩
    · rw [Laws.offerFifo_room _ _ room]
    · rw [Laws.offerFifo_full _ _ full]
      rfl
  · have next : (!s.link.fifo.tail.isEmpty) = decide (1 < s.link.fifo.length) := by
      rcases s.link.fifo with _ | ⟨a, _ | ⟨b, l⟩⟩ <;> simp
    rw [exec, execFrontTransmitEnd, Laws.frontTransmitEnd_sending s sending, next, List.drop_one]
  · rw [exec, execFrontTransmitEnd, Laws.frontTransmitEnd_idle s idle]

/-! ### The state after power-on reset -/

/-- Settles O60: every field at its default. -/
theorem resetMeetsTheInvariants : Obligations.ResetMeetsTheInvariants := by
  have settings : SettingsHeld {} := by constructor <;> decide
  refine ⟨⟨settings, rfl, by simp [State.reset], by simp [State.reset]⟩,
    ⟨⟨settings, rfl, by simp [State.reset], rfl, by simp [State.reset]⟩, by simp [State.reset], ?_, rfl, by simp [State.reset],
      rfl, by simp [State.reset]⟩,
    ⟨settings, rfl, by simp [State.reset], by simp [State.reset]⟩, ?_, ?_, ?_, ?_, ⟨rfl, by simp [State.reset]⟩⟩
  · constructor <;> simp [State.reset, Table.canonical, Table.wf, Table.rising]
  · constructor <;> simp [State.reset, ClockState.running, settings]
  · constructor <;> simp [State.reset]
  · constructor <;> simp [State.reset]
  · constructor <;> simp [State.reset]

end Sys2Proof.Commands
end

section
/-! PROOFS. The round of the Output Scheduler (R142): the grant at the end of a transmission in the manual's words, and what seven
of them give each class. -/

namespace Sys2Proof.Rounds

set_option Elab.async false

open Sys2Proof.Machine Sys2Proof.Safety

theorem roundClass_eq_classAt {k : Nat} (h : k ≤ 6) : roundClass k = classAt k := by
  interval_cases k <;> rfl

theorem queue_eq_waiting (c : RoundClass) (o : Output) : c.queue o = waiting o c := by cases c <;> rfl

theorem roundGrant_eq_served (c : RoundClass) (o : Output) (h : o.round ≤ 6) : roundGrant c o = served o c := by
  have next : (if o.round < 6 then o.round + 1 else 0) = (o.round + 1) % 7 := by split <;> omega
  cases c <;> simp [roundGrant, served, RoundClass.queue, next, List.head?_eq_getElem?]

/-- The round's choice is the first class with a frame, from the position's class on. -/
theorem roundChoice_eq_find (o : Output) (h : o.round ≤ 6) :
    roundChoice o = [classAt o.round, .answer, .report, .status].find? fun c => decide (waiting o c ≠ []) := by
  rw [roundChoice, roundClass_eq_classAt h, queue_eq_waiting, show o.answer = waiting o .answer from rfl,
    show o.report = waiting o .report from rfl, show o.status = waiting o .status from rfl]
  simp only [List.find?_cons, List.find?_nil]
  split_ifs <;> simp [*]

/-- The scheduler at the end of a transmission, before its grant. -/
def freed (o : Output) : Output := { o with sending := none }

theorem exec_end {s : State} (sending : s.out.sending.isSome = true) :
    exec .benchTransmitEnd s = .next { s with out := grantOutput (freed s.out) } := by
  obtain ⟨f, hf⟩ := Option.isSome_iff_exists.mp sending
  rw [exec, execBenchTransmitEnd, Laws.benchTransmitEnd_sending s f hf]
  rfl

/-- Freeing the transmitter leaves the queues and the position. -/
theorem served_freed (o : Output) (c : RoundClass) : served (freed o) c = served o c := by cases c <;> rfl

theorem exec_end_round {s : State} {c : RoundClass} (round : s.out.round ≤ 6) (loop : s.out.loop = [])
    (sending : s.out.sending.isSome = true)
    (choice : ([classAt s.out.round, .answer, .report, .status].find? fun c => decide (waiting s.out c ≠ [])) = some c) :
    exec .benchTransmitEnd s = .next { s with out := served s.out c } := by
  have chosen : roundChoice (freed s.out) = some c := (roundChoice_eq_find (freed s.out) round).trans choice
  rw [exec_end sending, Laws.grantOutput_round (freed s.out) c loop chosen, roundGrant_eq_served _ (freed s.out) round,
    served_freed]

/-! ### Seven grants -/

/-- Grants to a class among the first `k` from position `p` on, every class having a frame. -/
def turns (p k : Nat) (c : RoundClass) : Nat := ((List.range k).map fun i => classAt ((p + i) % 7)).count c

/-- The scheduler after `k` grants from position `p` on. -/
def afterTurns (o : Output) (k : Nat) (sending : Option Frame) : Output :=
  { o with
    answer := o.answer.drop (turns o.round k .answer)
    report := o.report.drop (turns o.round k .report)
    status := o.status.drop (turns o.round k .status)
    round := (o.round + k) % 7
    sending := sending }

theorem turns_succ (p k : Nat) (c : RoundClass) :
    turns p (k + 1) c = turns p k c + if classAt ((p + k) % 7) = c then 1 else 0 := by
  rw [turns, List.range_succ, List.map_append, List.count_append, turns]
  simp [List.count_singleton]

theorem turns_seven {p : Nat} (h : p ≤ 6) : turns p 7 .answer = 4 ∧ turns p 7 .report = 2 ∧ turns p 7 .status = 1 := by
  interval_cases p <;> decide

/-- Until the seventh grant, no class has used up its share before its turn. -/
theorem turns_below_share {p k : Nat} (hp : p ≤ 6) (hk : k < 7) (c : RoundClass) (turn : classAt ((p + k) % 7) = c) :
    turns p k c < turns p 7 c := by
  subst turn
  interval_cases p <;> interval_cases k <;> decide

/-- With every share covered, a grant serves the class whose turn it is. -/
theorem served_afterTurns (o : Output) {k : Nat} (hk : k < 7) (round : o.round ≤ 6) (f : Option Frame)
    (answer : 4 ≤ o.answer.length) (report : 2 ≤ o.report.length) (status : 1 ≤ o.status.length) :
    waiting (afterTurns o k f) (classAt (afterTurns o k f).round) ≠ [] ∧
      ∃ g, served (afterTurns o k f) (classAt (afterTurns o k f).round) = afterTurns o (k + 1) (some g) := by
  obtain ⟨answers, reports, statuses⟩ := turns_seven round
  have below := turns_below_share round hk
  have position : ((o.round + k) % 7 + 1) % 7 = (o.round + (k + 1)) % 7 := by omega
  rcases turn : classAt ((o.round + k) % 7) with _ | _ | _ <;>
    have share := below _ turn <;>
    simp only [answers, reports, statuses] at share <;>
    simp only [afterTurns, turn, waiting, served, turns_succ, position, reduceCtorEq, if_true, if_false, Nat.add_zero,
      List.drop_drop, ne_eq, List.drop_eq_nil_iff, not_le, List.getElem?_drop]
  · exact ⟨by omega, o.answer[turns o.round k .answer]'(by omega), by simp [show turns o.round k .answer < o.answer.length by omega]⟩
  · exact ⟨by omega, o.report[turns o.round k .report]'(by omega), by simp [show turns o.round k .report < o.report.length by omega]⟩
  · exact ⟨by omega, o.status[turns o.round k .status]'(by omega), by simp [show turns o.round k .status < o.status.length by omega]⟩

theorem runs_replicate_succ {s t : State} (c : Instr) (k : Nat) (h : runs (List.replicate k c) s = some t) :
    runs (List.replicate (k + 1) c) s = runs [c] t := by
  induction k generalizing s with
  | zero => cases h; rfl
  | succ k ih =>
    rw [List.replicate_succ, runs] at h ⊢
    split at h
    · next u hu => exact ih h
    · cases h

theorem runs_ends (s : State) (round : s.out.round ≤ 6) (loop : s.out.loop = []) (sending : s.out.sending.isSome = true)
    (answer : 4 ≤ s.out.answer.length) (report : 2 ≤ s.out.report.length) (status : 1 ≤ s.out.status.length) {k : Nat}
    (hk : k ≤ 7) :
    ∃ f, runs (List.replicate k .benchTransmitEnd) s = some { s with out := afterTurns s.out k (some f) } := by
  induction k with
  | zero =>
    obtain ⟨f, hf⟩ := Option.isSome_iff_exists.mp sending
    have start : afterTurns s.out 0 (some f) = s.out := by
      simp [afterTurns, turns, ← hf, Nat.mod_eq_of_lt (show s.out.round < 7 by omega)]
    exact ⟨f, by rw [start]; rfl⟩
  | succ k ih =>
    obtain ⟨f, run⟩ := ih (by omega)
    obtain ⟨turn, g, next⟩ := served_afterTurns (k := k) s.out (by omega) round (some f) answer report status
    have bound : (afterTurns s.out k (some f)).round ≤ 6 := by simp only [afterTurns]; omega
    have choice : ([classAt (afterTurns s.out k (some f)).round, .answer, .report, .status].find? fun c =>
        decide (waiting (afterTurns s.out k (some f)) c ≠ [])) = some (classAt (afterTurns s.out k (some f)).round) := by
      simp [turn]
    refine ⟨g, ?_⟩
    rw [runs_replicate_succ _ _ run, runs,
      exec_end_round (s := { s with out := afterTurns s.out k (some f) }) bound loop rfl choice]
    simp only [runs, next]

/-- Settles O12: one grant by the queues' state; seven by `runs_ends`. -/
theorem theRoundGrantsByItsPositions : Obligations.TheRoundGrantsByItsPositions := by
  refine ⟨fun s round => ⟨?_, ?_, ?_, ?_⟩, ?_⟩
  · intro g rest loop sending
    rw [exec_end sending, Laws.grantOutput_loop (freed s.out) g rest loop]
    rfl
  · exact fun c loop sending choice => exec_end_round round loop sending choice
  · intro loop sending empty
    have choice : roundChoice (freed s.out) = none :=
      (Laws.roundChoice_none _).mpr ⟨empty .answer, empty .report, empty .status⟩
    rw [exec_end sending, Laws.grantOutput_none (freed s.out) loop choice]
    rfl
  · intro free
    rw [exec, execBenchTransmitEnd, Laws.benchTransmitEnd_free s free]
  · intro s round loop sending answer report status
    obtain ⟨f, run⟩ := runs_ends s round loop sending answer report status le_rfl
    obtain ⟨answers, reports, statuses⟩ := turns_seven round
    refine ⟨_, run, ?_, ?_, ?_, ?_⟩ <;> simp only [afterTurns, answers, reports, statuses]
    omega

end Sys2Proof.Rounds
end

section
/-! PROOFS. Traffic: what the blocks' operations do to the alerts, the counters and the Output Scheduler, as one relation. Each
operation has one lemma that says which counters it may count, which alerts it may raise and which parts of the scheduler it may
touch; what holds of every traffic is proved once, at the end. -/

namespace Sys2Proof.Traffic

set_option Elab.async false

open Sys2Proof.Machine Sys2Proof.Safety Sys2Proof.Commands

/-- What an operation may count, raise and touch. -/
structure Footprint where
  counters : List Counter := []
  alerts : List Alert := []
  loop : Bool := false
  report : Bool := false
  budget : Bool := false
  timer : Bool := false

/-- A footprint lies within another. -/
def Footprint.within (F G : Footprint) : Bool :=
  F.counters.all (fun c => decide (c ∈ G.counters)) && F.alerts.all (fun a => decide (a ∈ G.alerts)) && (!F.loop || G.loop) &&
    (!F.report || G.report) && (!F.budget || G.budget) && (!F.timer || G.timer)

theorem Footprint.within_iff {F G : Footprint} : F.within G = true ↔
    (∀ c ∈ F.counters, c ∈ G.counters) ∧ (∀ a ∈ F.alerts, a ∈ G.alerts) ∧ (F.loop = true → G.loop = true) ∧
      (F.report = true → G.report = true) ∧ (F.budget = true → G.budget = true) ∧ (F.timer = true → G.timer = true) := by
  have flag : ∀ a b : Bool, (!a || b) = true ↔ (a = true → b = true) := by decide
  simp only [Footprint.within, Bool.and_eq_true, List.all_eq_true, decide_eq_true_eq, flag, and_assoc]

/-- A state reached from another by elementary operations on alerts, counters and scheduler, within a footprint; anything may
happen to the blocks that have no part in these. -/
inductive Carried (F : Footprint) : State → State → Prop
  | rest {s t : State} : t.link = s.link → t.out = s.out → t.alerts = s.alerts → t.settings = s.settings → Carried F s t
  | raised {a : Alert} (s : State) : a ∈ F.alerts → Carried F s (raise a s)
  | counted {c : Counter} (n : Nat) (s : State) : c ∈ F.counters → Carried F s (bumpBy c n s)
  | looped (f : Frame) (s : State) : F.loop = true → .loopDrop ∈ F.counters → Carried F s (offerLoop f s)
  | reported (f : Frame) (s : State) : F.report = true → s.out.report.length < 32 →
      Carried F s { s with out := admitted { s.out with report := s.out.report ++ [f] } }
  | budgeted (b : Budget) (s : State) : F.budget = true →
      (∀ n, b = .left n → n ≤ s.settings.reportLimit ∨ ∃ m, s.out.budget = .left m ∧ n ≤ m) →
      Carried F s { s with out := { s.out with budget := b } }
  | timed (t : Option Nat) (s : State) : F.timer = true → Carried F s (setRefreshTimer t s)
  | trans {s t u : State} : Carried F s t → Carried F t u → Carried F s u

namespace Carried
variable {F G : Footprint} {s t u : State}

theorem refl (s : State) : Carried F s s := .rest rfl rfl rfl rfl

theorem mono (h : Carried F s t) (hFG : F.within G = true) : Carried G s t := by
  obtain ⟨counters, alerts, loop, report, budget, timer⟩ := Footprint.within_iff.mp hFG
  induction h with
  | rest h₁ h₂ h₃ h₄ => exact .rest h₁ h₂ h₃ h₄
  | raised s ha => exact .raised s (alerts _ ha)
  | counted n s hc => exact .counted n s (counters _ hc)
  | looped f s hl hc => exact .looped f s (loop hl) (counters _ hc)
  | reported f s hr room => exact .reported f s (report hr) room
  | budgeted b s hb bound => exact .budgeted b s (budget hb) bound
  | timed t s ht => exact .timed t s (timer ht)
  | trans _ _ ih₁ ih₂ => exact .trans ih₁ ih₂

/-- An operation within a smaller footprint after others. -/
theorem andThen (h₁ : Carried F s t) (h₂ : Carried G t u) (hGF : G.within F = true := by decide) : Carried F s u :=
  .trans h₁ (h₂.mono hGF)

/-- What happens to the other blocks afterwards does not count. -/
theorem andRest (h : Carried F s t) (link : u.link = t.link := by simp) (out : u.out = t.out := by simp)
    (alerts : u.alerts = t.alerts := by simp) (settings : u.settings = t.settings := by simp) : Carried F s u :=
  .trans h (.rest link out alerts settings)

/-- What happens to the other blocks beforehand does not count. -/
theorem fromRest (h : Carried F t u) (link : t.link = s.link := by rfl) (out : t.out = s.out := by rfl)
    (alerts : t.alerts = s.alerts := by rfl) (settings : t.settings = s.settings := by rfl) : Carried F s u :=
  .trans (.rest link out alerts settings) h
end Carried

/-! ### Reports, notices, the LOOP class -/

/-- A report is offered. -/
def reports : Footprint := { counters := [.reportDrop], alerts := [.reportOverflow], report := true }

/-- DEFECT_NOTICEs are offered. -/
def notices : Footprint := { counters := [.reportDrop, .budgetDrop], alerts := [.reportOverflow], report := true, budget := true }

/-- Frames are offered to the LOOP class. -/
def loops : Footprint := { counters := [.loopDrop], loop := true }

theorem counted_bump {F : Footprint} {c : Counter} (s : State) (h : c ∈ F.counters) : Carried F s (bump c s) := .counted 1 s h

theorem offerReport_carried (k : Nat) (r : List Byte) (s : State) : Carried reports s (offerReport k r s) := by
  rcases Nat.lt_or_ge s.out.report.length 32 with room | full
  · rw [Laws.offerReport_room k r s room]
    exact .reported _ s rfl room
  · rw [Laws.offerReport_full k r s full]
    exact .trans (counted_bump s (by decide)) (.raised _ (by decide))

theorem offerDefectNotice_carried (r : List Byte) (s : State) : Carried notices s (offerDefectNotice r s) := by
  unfold offerDefectNotice
  split
  · exact (offerReport_carried 3 r s).mono (by decide)
  · exact counted_bump s (by decide)
  · next n left =>
    refine .andThen (.budgeted (.left n) s rfl fun m hm => .inr ⟨n + 1, left, ?_⟩) (offerReport_carried 3 r _)
    cases hm
    omega

theorem offerLoop_carried (f : Frame) (s : State) : Carried loops s (offerLoop f s) := .looped f s rfl (by decide)

theorem offerPosition_carried (p : Position) (s : State) : Carried loops s (offerPosition p s) := offerLoop_carried _ s

theorem forward_carried (bytes : Frame) (p : Position) (s : State) : Carried loops s (forward bytes p s) := by
  unfold forward
  dsimp only
  split
  · exact offerLoop_carried bytes s
  · exact offerPosition_carried _ s
  · exact .trans (offerLoop_carried bytes s) (offerPosition_carried _ _)

/-! ### Notices to learning and plan (R73, R85, R122) -/

/-- A running accumulation may be thrown away. -/
def discards : Footprint := { counters := [.passRestarts] }

/-- The clock departs from LOCKED or COASTING. -/
def departs : Footprint := { counters := [.passRestarts], timer := true }

theorem discardAccumulation_carried (s : State) : Carried discards s (discardAccumulation s) := by
  unfold discardAccumulation
  split
  · exact (counted_bump (setEngine _ s) (by decide)).fromRest
  · exact .refl s

theorem headNotice_carried (h : Nat) (s : State) : Carried discards s (headNotice h s) := by
  unfold headNotice
  have discarded : Carried discards s (if boundTo s h then discardAccumulation s else s) := by
    split
    · exact discardAccumulation_carried s
    · exact .refl s
  dsimp only
  generalize (if boundTo s h then discardAccumulation s else s) = s₁ at discarded ⊢
  split
  · exact discarded.andRest
  · exact discarded

theorem headSwitch_carried (h : Nat) (s : State) : Carried discards s (headSwitch h s) := by
  unfold headSwitch
  split
  · exact .refl s
  · dsimp only
    split
    · exact (headNotice_carried _ _).fromRest
    · exact .rest rfl rfl rfl rfl

theorem contextStage_carried (h : Nat) (s : State) : Carried discards s (contextStage h s).1 :=
  (headSwitch_carried h s).andRest (alerts := rfl)

theorem readHoldFrame_carried (f : HoldRead) (s : State) : Carried discards s (readHoldFrame f s) := by
  unfold readHoldFrame
  dsimp only
  split_ifs
  · exact (headNotice_carried _ _).fromRest
  · exact .rest rfl rfl rfl rfl
  · exact .refl s

theorem departure_carried (s : State) : Carried departs s (departure s) := by
  unfold departure
  split
  · have notified : Carried departs s (clockLossNotice s) :=
      ((discardAccumulation_carried s).mono (by decide)).andRest (alerts := by simp [clockLossNotice])
    exact notified.trans (.timed _ _ rfl)
  · exact .refl s

/-! ### The Wedge Clock -/

/-- The clock locks. -/
def locks : Footprint := { counters := [.reportDrop], alerts := [.clockLocked, .reportOverflow], report := true, timer := true }

/-- The clock is lost. -/
def loses : Footprint :=
  { counters := [.passRestarts, .reportDrop], alerts := [.clockLost, .reportOverflow], report := true, timer := true }

/-- The clock misses a wedge. -/
def misses : Footprint :=
  { counters := [.missedWedges, .heldFrames, .loopDrop, .passRestarts, .reportDrop]
    alerts := [.clockLost, .reportOverflow]
    loop := true
    report := true
    timer := true }

/-- The clock takes a frame outside LOCKED and COASTING. -/
def acquires : Footprint :=
  { counters := [.acquireFails, .reportDrop], alerts := [.clockLocked, .reportOverflow], report := true, timer := true }

/-- The clock takes a frame. -/
def rules : Footprint :=
  { counters := [.windowMiss, .slips, .acquireFails, .passRestarts, .reportDrop]
    alerts := [.clockLocked, .reportOverflow]
    report := true
    timer := true }

/-- The clock takes a frame and may give its completed revolution event. -/
def clocks : Footprint := { rules with counters := .budgetDrop :: rules.counters, budget := true }

theorem lockClock_carried (arrival : Nat) (a : Acquisition) (s : State) : Carried locks s (lockClock arrival a s) := by
  unfold lockClock
  have announced : ∀ c, Carried locks s (raise .clockLocked (setRefreshTimer none (setClock c s))) := fun c =>
    (Carried.trans (.timed none (setClock c s) rfl) (.raised _ (by decide))).fromRest
  exact (announced _).andThen (offerReport_carried _ _ _)

theorem endMeasurement_carried (arrival w : Nat) (a : Acquisition) (s : State) :
    Carried acquires s (endMeasurement arrival w a s) := by
  unfold endMeasurement
  split
  · exact (lockClock_carried arrival a s).mono (by decide)
  · exact (counted_bump _ (by decide)).fromRest

theorem acquireFrame_carried (arrival w : Nat) (index : Bool) (s : State) :
    Carried acquires s (acquireFrame arrival w index s) := by
  unfold acquireFrame
  split
  · dsimp only
    split
    · exact (endMeasurement_carried _ _ _ _).fromRest
    · exact .rest rfl rfl rfl rfl
  · exact .rest rfl rfl rfl rfl
  · split <;> exact .rest rfl rfl rfl rfl

theorem loseClock_carried (cause : Nat) (s : State) : Carried loses s (loseClock cause s) := by
  unfold loseClock
  have announced : ∀ c, Carried loses s (raise .clockLost (setClock c (departure s))) := fun c =>
    (((departure_carried s).mono (by decide)).andRest (u := setClock c (departure s))).trans (.raised _ (by decide))
  exact (announced _).andThen (offerReport_carried _ _ _)

theorem unlockClock_carried (s : State) : Carried departs s (unlockClock s) :=
  (departure_carried s).andRest (out := rfl) (alerts := rfl)

theorem idleExpiry_carried (s : State) : Carried loses s (idleExpiry s) := by
  unfold idleExpiry
  split
  · exact loseClock_carried 2 s
  · exact .refl s

theorem synthesize_carried (w : Nat) (s : State) :
    Carried { counters := [.heldFrames, .loopDrop], loop := true } s (synthesize w s) := by
  unfold synthesize
  split
  · split
    · exact .refl s
    · exact .trans ((offerPosition_carried _ s).mono (by decide)) (counted_bump _ (by decide))
  · exact .refl s

theorem declareMissed_carried (s : State) : Carried misses s (declareMissed s) := by
  unfold declareMissed
  split
  · next e he =>
    have synthesized : ∀ c, Carried misses s (synthesize e.wedge (setClock c (bump .missedWedges s))) := fun c =>
      ((counted_bump (c := .missedWedges) s (by decide)).andRest (u := setClock c (bump .missedWedges s))).andThen (synthesize_carried _ _)
    dsimp only
    generalize giveReference _ _ _ _ = c
    split
    · exact (synthesized c).andThen (loseClock_carried 1 _)
    · exact synthesized c
  · exact .refl s

theorem closePast_carried (now fuel : Nat) (s : State) : Carried misses s (closePast now fuel s) := by
  induction fuel generalizing s with
  | zero => exact .refl s
  | succ fuel ih =>
    unfold closePast
    split
    · exact .trans (declareMissed_carried s) (ih _)
    · exact .refl s

/-- What a ruling may count and touch (R65, R67, R68). -/
def rulingFootprint : Ruling → Footprint
  | .early => { counters := [.windowMiss] }
  | .slip => { counters := [.slips, .passRestarts], timer := true }
  | .unruled | .onTime | .late => {}

theorem applyRuling_carried (r : Ruling) (arrival w : Nat) (s : State) :
    Carried (rulingFootprint r) s (applyRuling r arrival w s) := by
  cases r with
  | unruled => exact .refl s
  | onTime => exact .rest rfl rfl rfl rfl
  | early => exact (counted_bump (setClock _ s) (by decide)).fromRest
  | late => exact .refl s
  | slip =>
    have counted : Carried (rulingFootprint .slip) s (bump .slips s) := counted_bump s (by decide)
    exact (counted.andThen (departure_carried _)).andRest (out := rfl) (alerts := rfl)

theorem rulingFootprint_within (r : Ruling) : (rulingFootprint r).within rules = true := by cases r <;> decide

theorem ruleStage_carried (arrival w : Nat) (index : Bool) (s : State) :
    Carried rules s (ruleStage arrival w index s).1 := by
  unfold ruleStage
  split
  · exact ((applyRuling_carried _ arrival w _).mono (rulingFootprint_within _)).fromRest
  · exact (acquireFrame_carried arrival w index s).mono (by decide)

theorem refreshBudget_carried {F : Footprint} (s : State) (h : F.budget = true) : Carried F s (refreshBudget s) := by
  refine .budgeted _ s h fun n hn => .inl ?_
  unfold budgetOf at hn
  split at hn
  · cases hn
  · cases hn
    exact le_rfl

theorem foldl_notice_carried (l : Table DefectEntry) (s : State) :
    Carried notices s (l.foldl (fun s c => offerDefectNotice (defectNotice .aged c.1 c.2) s) s) := by
  induction l generalizing s with
  | nil => exact .refl s
  | cons c l ih => exact .trans (offerDefectNotice_carried _ s) (ih _)

theorem ageDefects_carried (h : Nat) (s : State) : Carried notices s (ageDefects h s) :=
  (foldl_notice_carried _ _).fromRest

theorem revolutionEvent_carried (h : Nat) (s : State) : Carried notices s (revolutionEvent h s) :=
  ((refreshBudget_carried _ rfl).trans (ageDefects_carried _ _)).fromRest

theorem clockStage_carried (arrival h w : Nat) (index : Bool) (s : State) :
    Carried clocks s (clockStage arrival h w index s).1 := by
  have ruled := (ruleStage_carried arrival w index s).mono (G := clocks) (by decide)
  unfold clockStage
  dsimp only
  split
  · exact ruled.andThen (revolutionEvent_carried h _)
  · exact ruled

/-! ### The apply and the Plan Controller -/

/-- A solve is applied. -/
def applies : Footprint := { counters := [.thinWedges, .reportDrop], alerts := [.reportOverflow], report := true }

/-- A plan ends. -/
def planEnds : Footprint := { counters := [.reportDrop], alerts := [.planEnd, .reportOverflow], report := true }

/-- A step ends. -/
def stepEnds : Footprint :=
  { counters := [.stepsFailed, .reportDrop], alerts := [.stepDone, .stepFailed, .planEnd, .reportOverflow], report := true }

theorem applySolve_carried (s : State) : Carried applies s (applySolve s).1 := by
  unfold applySolve
  split
  · next b p v _ _ _ =>
    have folded : Carried applies s
        (if p.fold then foldOffset b.head v.meanFold (writeEntries b.head v.entries s) else writeEntries b.head v.entries s) := by
      split <;> exact .rest (by simp) (by simp) (by simp) (by simp)
    have announced := (folded.trans (.counted (c := .thinWedges) v.thin _ (by decide))).andThen
      (offerReport_carried 2 (passSummary b s.engine.passNumber v) _)
    exact announced.andRest
  · exact .refl s

theorem applyStage_carried (h : Nat) (index : Bool) (s : State) : Carried applies s (applyStage h index s).1 := by
  unfold applyStage
  split
  · exact applySolve_carried s
  · exact .refl s

theorem endPlan_carried (reason : PlanReason) (s : State) : Carried planEnds s (endPlan reason s) := by
  unfold endPlan
  exact (((offerReport_carried _ _ _).mono (by decide)).trans (.raised _ (by decide))).fromRest

theorem advance_carried (n : Nat) (outcome : StepOutcome) (s : State) : Carried planEnds s (advance n outcome s) := by
  unfold advance
  split_ifs
  · exact endPlan_carried _ s
  · exact endPlan_carried _ s
  · exact endPlan_carried _ s
  · exact .rest rfl rfl rfl rfl

theorem endStep_carried (n : Nat) (outcome : StepOutcome) (s : State) : Carried stepEnds s (endStep n outcome s) := by
  have announced : Carried stepEnds s (let s₁ := offerReport 5 (stepResult n outcome s) s
      if outcome.failure then bump .stepsFailed (raise .stepFailed s₁) else raise .stepDone s₁) := by
    have result := (offerReport_carried 5 (stepResult n outcome s) s).mono (G := stepEnds) (by decide)
    dsimp only
    split
    · exact (result.trans (.raised _ (by decide))).trans (counted_bump _ (by decide))
    · exact result.trans (.raised _ (by decide))
  exact announced.andRest.andThen (advance_carried _ _ _)

theorem closeSettle_carried (n : Nat) (p : PlanStep) (s : State) : Carried stepEnds s (closeSettle n p s) := by
  unfold closeSettle
  dsimp only
  generalize Registers.mk _ _ _ _ _ _ _ _ _ _ _ _ = regs
  generalize (if s.plan.regs.settleMark then 0 else s.plan.regs.settleClean + 1) = clean
  split_ifs
  · exact (endStep_carried _ _ _).fromRest
  · exact (endStep_carried _ _ _).fromRest
  · exact .rest rfl rfl rfl rfl

theorem closeOffset_carried (n : Nat) (p : PlanStep) (s : State) : Carried stepEnds s (closeOffset n p s) := by
  unfold closeOffset
  dsimp only
  split_ifs
  · exact (endStep_carried _ _ _).fromRest (by simp) (by simp) (by simp) (by simp)
  · exact (endStep_carried _ _ _).fromRest
  · exact .rest rfl rfl rfl rfl

theorem closeVerify_carried (n : Nat) (p : PlanStep) (s : State) : Carried stepEnds s (closeVerify n p s) := by
  unfold closeVerify
  dsimp only
  split_ifs
  · exact (endStep_carried _ _ _).fromRest
  · exact .rest rfl rfl rfl rfl

theorem closeRevolution_carried (h : Nat) (s : State) : Carried stepEnds s (closeRevolution h s) := by
  unfold closeRevolution
  split
  · dsimp only
    split
    · split
      · exact closeSettle_carried _ _ s
      · exact closeOffset_carried _ _ s
      · exact closeVerify_carried _ _ s
      all_goals exact .refl s
    · exact .refl s
  · exact .refl s

theorem endLearn_carried (after : Option AfterApply) (s : State) : Carried stepEnds s (endLearn after s) := by
  unfold endLearn
  split
  · exact endStep_carried _ _ s
  · exact endStep_carried _ _ s
  · exact .refl s

/-- Stage 4 of R80 before activation: the end of a LEARN step, or the closing of a revolution. -/
def closeStage (h : Nat) (event : Bool) (after : Option AfterApply) (s : State) : State :=
  if after == some .converged || after == some .completed then endLearn after s
  else if event then closeRevolution h s else s

theorem planStage_eq (h : Nat) (event : Bool) (after : Option AfterApply) (s : State) :
    planStage h event after s =
      if event then tryActivate h (closeStage h event after s) else closeStage h event after s := rfl

theorem closeStage_carried (h : Nat) (event : Bool) (after : Option AfterApply) (s : State) :
    Carried stepEnds s (closeStage h event after s) := by
  unfold closeStage
  split_ifs
  · exact endLearn_carried after s
  · exact closeRevolution_carried h s
  · exact .refl s

theorem planStage_carried (h : Nat) (event : Bool) (after : Option AfterApply) (s : State) :
    Carried stepEnds s (planStage h event after s) := by
  rw [planStage_eq]
  split
  · exact (closeStage_carried h event after s).andRest
  · exact closeStage_carried h event after s

theorem engineStage_carried {F : Footprint} (h : Nat) (event further : Bool) (s : State) :
    Carried F s (engineStage h event further s) := .rest (by simp) (by simp) (by simp) (by simp)

theorem startPlan_carried (s : State) : Carried planEnds s (startPlan s) := by
  unfold startPlan
  split
  · exact (((offerReport_carried _ _ _).mono (by decide)).trans (.raised _ (by decide))).fromRest
  · exact .rest rfl rfl rfl rfl

theorem stopPlan_carried (s : State) : Carried stepEnds s (stopPlan s) := by
  unfold stopPlan
  split
  · exact endStep_carried _ _ s
  · exact .refl s

theorem waitTimerExpiry_carried (s : State) : Carried stepEnds s (waitTimerExpiry s) := by
  unfold waitTimerExpiry
  split
  · exact endStep_carried _ _ s
  · exact .refl s

/-! ### Stage 6 -/

/-- A head's defect entry is hit. -/
def hits : Footprint :=
  { counters := [.defectDrop, .reportDrop, .budgetDrop]
    alerts := [.defectConfirmed, .defectFull, .reportOverflow]
    report := true
    budget := true }

/-- A frame is held. -/
def holds : Footprint := { hits with counters := .heldFrames :: hits.counters }

/-- A frame is counted at the monitor. -/
def monitors : Footprint := { counters := [.reportDrop], alerts := [.offtrack, .reportOverflow], report := true }

/-- A frame is demodulated. -/
def demodulates : Footprint := { monitors with counters := .saturatedFrames :: monitors.counters }

/-- A frame is classed. -/
def classes : Footprint :=
  { counters := [.heldFrames, .saturatedFrames, .defectDrop, .reportDrop, .budgetDrop]
    alerts := [.defectConfirmed, .defectFull, .offtrack, .reportOverflow]
    report := true
    budget := true }

theorem hitExisting_carried (k : Nat) (e : DefectEntry) (s : State) : Carried hits s (hitExisting k e s) := by
  unfold hitExisting
  dsimp only
  split
  · exact ((Carried.raised (F := hits) (setDefects _ s) (by decide)).andThen (offerDefectNotice_carried _ _)).fromRest
  · exact .rest rfl rfl rfl rfl

theorem createByHit_carried (k h w : Nat) (s : State) : Carried hits s (createByHit k h w s) := by
  unfold createByHit
  dsimp only
  split
  · exact ((Carried.raised (F := hits) (setDefects _ s) (by decide)).andThen (offerDefectNotice_carried _ _)).fromRest
  · exact ((offerDefectNotice_carried _ _).mono (by decide)).fromRest

theorem evict_carried (v : Nat × DefectEntry) (s : State) : Carried notices s (evict v s) :=
  (offerDefectNotice_carried _ _).fromRest

theorem recordHit_carried (h w : Nat) (s : State) : Carried hits s (recordHit h w s) := by
  rcases Laws.recordHit_cases h w s with ⟨k, e, -, heq⟩ | ⟨-, ⟨k, -, heq⟩ | ⟨-, ⟨v, -, heq⟩ | ⟨-, heq⟩⟩⟩ <;> rw [heq]
  · exact hitExisting_carried k e s
  · exact createByHit_carried k h w s
  · exact .trans ((evict_carried v s).mono (by decide)) (createByHit_carried _ _ _ _)
  · exact .trans (counted_bump s (by decide)) (.raised _ (by decide))

theorem heldStage_carried (f : WedgeRead) (fault : Bool) (s : State) : Carried holds s (heldStage f fault s) := by
  unfold heldStage
  dsimp only
  split
  · exact (counted_bump s (by decide)).andThen (recordHit_carried _ _ _)
  · exact counted_bump s (by decide)

theorem storeDemodulated_carried (ec : Int) (f : WedgeRead) (s : State) :
    Carried { counters := [.saturatedFrames] } s (storeDemodulated ec f s) := by
  unfold storeDemodulated
  dsimp only
  split
  · exact (counted_bump (c := .saturatedFrames) s (by decide)).andRest
  · exact .rest rfl rfl rfl rfl

theorem monitorCount_carried (h w : Nat) (eOut : Int) (s : State) : Carried monitors s (monitorCount h w eOut s).1 := by
  unfold monitorCount
  dsimp only
  generalize HeadContext.mk _ _ _ _ _ _ _ _ _ _ = c
  have raised : Carried monitors s (raise .offtrack (setHeadContext h c s)) :=
    (Carried.raised (setHeadContext h c s) (by decide)).fromRest
  split_ifs
  · exact raised.andThen (offerReport_carried _ _ _)
  · exact ((offerReport_carried _ _ _).mono (by decide)).fromRest
  · exact raised
  · exact .rest rfl rfl rfl rfl

theorem demodulatedStage_carried (f : WedgeRead) (k : FrameFacts) (ec : Int) (s : State) :
    Carried demodulates s (demodulatedStage f k ec s).1 := by
  have stored := (storeDemodulated_carried ec f s).mono (G := demodulates) (by decide)
  unfold demodulatedStage
  split
  · exact stored.andRest
  · exact (stored.andThen (monitorCount_carried f.head f.wedge (clampOutput ec) _)).andRest

theorem frameStage_carried (f : WedgeRead) (k : FrameFacts) (s : State) : Carried classes s (frameStage f k s).1 := by
  unfold frameStage
  dsimp only
  split
  · exact ((heldStage_carried f (faulty (headRec s f.head).burstFloor f) s).mono (by decide)).andRest
  · next ec _ => exact ((demodulatedStage_carried f k ec s).mono (by decide)).andRest

/-! ### WEDGE frames, stage by stage -/

/-- An eligible frame's state after stage 1 (R80). -/
def contextFound (f : WedgeRead) (s : State) : State := (contextStage f.head s).1

/-- After stage 2, with what the clock found. -/
def ruled (arrival : Nat) (f : WedgeRead) (s : State) : State × ClockResult :=
  clockStage arrival f.head f.wedge f.index (contextFound f s)

/-- After stage 3, with what follows an apply. -/
def applied (arrival : Nat) (f : WedgeRead) (s : State) : State × Option AfterApply :=
  applyStage f.head f.index (ruled arrival f s).1

/-- After stage 4. -/
def planned (arrival : Nat) (f : WedgeRead) (s : State) : State :=
  planStage f.head (ruled arrival f s).2.event (applied arrival f s).2 (applied arrival f s).1

/-- After stage 5. -/
def learned (arrival : Nat) (f : WedgeRead) (s : State) : State :=
  engineStage f.head (ruled arrival f s).2.event ((applied arrival f s).2 == some .further) (planned arrival f s)

/-- What stages 1 to 3 settled for stage 6. -/
def facts (arrival : Nat) (f : WedgeRead) (s : State) : FrameFacts :=
  { props := (contextStage f.head s).2, clock := (ruled arrival f s).2, offset := effectiveOffset (applied arrival f s).1 f.head }

/-- After stage 6, with the POSITION's contents. -/
def classed (arrival : Nat) (f : WedgeRead) (s : State) : State × Position :=
  frameStage f (facts arrival f s) (learned arrival f s)

theorem handleWedge_eq (arrival : Nat) (f : WedgeRead) (bytes : Frame) (s : State) :
    handleWedge arrival f bytes s =
      forward bytes (classed arrival f s).2 (passTargetChange f.head (classed arrival f s).1) := rfl

/-! ### WEDGE frames -/

/-- Anything. -/
def anything : Footprint :=
  { counters := [.frontCrc, .frontLength, .frontMisdirected, .benchCrc, .benchLength, .benchMisdirected, .frontTransmitDrop,
      .foreignHead, .wedgeRange, .windowMiss, .missedWedges, .slips, .acquireFails, .loopDrop, .answerDrop, .reportDrop,
      .statusDrop, .budgetDrop, .defectDrop, .passRestarts, .heldFrames, .saturatedFrames, .thinWedges, .stepsFailed]
    alerts := [.clockLost, .clockLocked, .offtrack, .defectConfirmed, .defectFull, .reportOverflow, .answerDropped,
      .frontLinkError, .benchLinkError, .stepDone, .stepFailed, .planEnd]
    loop := true
    report := true
    budget := true
    timer := true }

theorem contextFound_carried (f : WedgeRead) (s : State) : Carried discards s (contextFound f s) :=
  contextStage_carried f.head s

theorem ruled_carried (arrival : Nat) (f : WedgeRead) (s : State) : Carried clocks s (ruled arrival f s).1 :=
  ((contextFound_carried f s).mono (by decide)).trans (clockStage_carried arrival f.head f.wedge f.index _)

theorem applied_carried (arrival : Nat) (f : WedgeRead) (s : State) : Carried anything s (applied arrival f s).1 :=
  ((ruled_carried arrival f s).mono (by decide)).andThen (applyStage_carried f.head f.index _)

theorem planned_carried (arrival : Nat) (f : WedgeRead) (s : State) : Carried anything s (planned arrival f s) :=
  (applied_carried arrival f s).andThen (planStage_carried _ _ _ _)

theorem learned_carried (arrival : Nat) (f : WedgeRead) (s : State) : Carried anything s (learned arrival f s) :=
  (planned_carried arrival f s).trans (engineStage_carried _ _ _ _)

theorem classed_carried (arrival : Nat) (f : WedgeRead) (s : State) : Carried anything s (classed arrival f s).1 :=
  (learned_carried arrival f s).andThen (frameStage_carried f _ _)

theorem handleWedge_carried (arrival : Nat) (f : WedgeRead) (bytes : Frame) (s : State) :
    Carried anything s (handleWedge arrival f bytes s) := by
  rw [handleWedge_eq]
  exact ((classed_carried arrival f s).andRest (alerts := by simp)).andThen (forward_carried bytes _ _)

theorem passWedge_carried (arrival : Nat) (f : WedgeRead) (bytes : Frame) (s : State) :
    Carried anything s (passWedge arrival f bytes s) := by
  have foreign : Carried anything s (if s.settings.headCount ≤ f.head then bump .foreignHead s else s) := by
    split
    · exact counted_bump s (by decide)
    · exact .refl s
  unfold passWedge
  dsimp only
  split
  · exact (foreign.trans (counted_bump _ (by decide))).andThen (offerLoop_carried bytes _)
  · exact (((foreign.andThen (clockStage_carried arrival f.head f.wedge f.index _)).andThen
      (planStage_carried _ _ _ _)).trans (engineStage_carried _ _ _ _)).andThen (offerLoop_carried bytes _)

theorem takeWedge_carried (arrival : Nat) (f : WedgeRead) (bytes : Frame) (s : State) :
    Carried anything s (takeWedge arrival f bytes s) := by
  have closed := (closePast_carried arrival Config.maxMisses s).mono (G := anything) (by decide)
  unfold takeWedge
  dsimp only
  split
  · exact closed.trans (handleWedge_carried _ _ _ _)
  · exact closed.trans (passWedge_carried _ _ _ _)

/-! ### What holds of every traffic -/

namespace Carried
variable {F : Footprint} {s t : State}

theorem link (h : Carried F s t) : t.link = s.link := by
  induction h with
  | rest h => exact h
  | trans _ _ ih₁ ih₂ => rw [ih₂, ih₁]
  | _ => simp

theorem settings (h : Carried F s t) : t.settings = s.settings := by
  induction h with
  | rest _ _ _ h => exact h
  | trans _ _ ih₁ ih₂ => rw [ih₂, ih₁]
  | _ => simp

theorem offerLoop_alerts (f : Frame) (s : State) :
    (offerLoop f s).alerts = s.alerts ∨ (offerLoop f s).alerts = (bump .loopDrop s).alerts := by
  unfold offerLoop
  dsimp only
  split
  · exact .inl rfl
  · exact .inr rfl

theorem mask (h : Carried F s t) : t.alerts.mask = s.alerts.mask := by
  induction h with
  | rest _ _ h => rw [h]
  | looped f s => rcases offerLoop_alerts f s with h | h <;> simp [h]
  | trans _ _ ih₁ ih₂ => rw [ih₂, ih₁]
  | _ => simp

/-- A set flag stays set. -/
theorem flag_stays (h : Carried F s t) {i : Nat} (hi : s.alerts.flags.getLsbD i = true) : t.alerts.flags.getLsbD i = true := by
  induction h with
  | rest _ _ h => rwa [h]
  | raised s => exact Laws.raise_keeps_set _ s i hi
  | looped f s => rcases offerLoop_alerts f s with h | h <;> rw [h] <;> simpa using hi
  | trans _ _ ih₁ ih₂ => exact ih₂ (ih₁ hi)
  | _ => simpa using hi

theorem position_injective {a b : Alert} (h : a.position = b.position) : a = b := by
  have position_eq : ∀ a : Alert, a.position = a.ctorIdx := by intro a; cases a <;> rfl
  rw [position_eq, position_eq] at h
  rw [← Alert.ofNat_ctorIdx a, h, Alert.ofNat_ctorIdx]

theorem index_injective {c d : Counter} (h : c.index = d.index) : c = d := by
  have index_eq : ∀ c : Counter, c.index = c.ctorIdx := by intro c; cases c <;> rfl
  rw [index_eq, index_eq] at h
  rw [← Counter.ofNat_ctorIdx c, h, Counter.ofNat_ctorIdx]

/-- Raising another alert leaves a flag. -/
theorem raise_flag_other {a b : Alert} (s : State) (h : b ≠ a) :
    (raise b s).alerts.flags.getLsbD a.position = s.alerts.flags.getLsbD a.position := by
  have other : b.position ≠ a.position := fun e => h (position_injective e)
  simp [LinkFailures.weight_eq_twoPow, BitVec.getLsbD_twoPow, other]

/-- The flag of an alert that is not raised stands. -/
theorem flag_eq (h : Carried F s t) {a : Alert} (ha : a ∉ F.alerts) :
    t.alerts.flags.getLsbD a.position = s.alerts.flags.getLsbD a.position := by
  induction h with
  | rest _ _ h => rw [h]
  | raised s hb => exact raise_flag_other s fun e => ha (e ▸ hb)
  | looped f s => rcases offerLoop_alerts f s with h | h <;> simp [h]
  | trans _ _ ih₁ ih₂ => rw [ih₂, ih₁]
  | _ => simp

theorem readCounter_offerLoop (f : Frame) (s : State) (k : Nat) :
    readCounter (offerLoop f s) k = readCounter s k ∨ readCounter (offerLoop f s) k = readCounter (bump .loopDrop s) k := by
  unfold readCounter
  rcases offerLoop_alerts f s with h | h <;> simp [h]

/-- A counter that is not counted stands. -/
theorem counter_eq (h : Carried F s t) {c : Counter} (hc : c ∉ F.counters) :
    readCounter t c.index = readCounter s c.index := by
  have other : ∀ d ∈ F.counters, c.index ≠ d.index := fun d hd e => hc (index_injective e ▸ hd)
  induction h with
  | rest _ _ h => simp only [readCounter, h]
  | counted n s hd => rw [Laws.readCounter_bumpBy, if_neg (other _ hd)]
  | looped f s _ hd =>
    rcases readCounter_offerLoop f s c.index with h | h <;> rw [h]
    rw [Laws.readCounter_bump, if_neg (other _ hd)]
  | trans _ _ ih₁ ih₂ => rw [ih₂, ih₁]
  | _ => rfl

theorem readCounter_le {s : State} (h : CountersHeld s) (k : Nat) : readCounter s k ≤ 65535 := by
  unfold readCounter Table.get
  rcases found : Table.find? s.alerts.counters k with _ | v
  · simp
  · have mem : ∀ t : Table Nat, Table.find? t k = some v → (k, v) ∈ t := by
      intro t ht
      induction t with
      | nil => cases ht
      | cons c t ih =>
        obtain ⟨j, u⟩ := c
        rw [Laws.find?_cons] at ht
        split at ht
        · next e => cases ht; subst e; exact List.mem_cons_self
        · exact List.mem_cons_of_mem _ (ih ht)
    exact h.counters _ (mem _ found)

theorem countersHeld_bumpBy {s : State} (h : CountersHeld s) (c : Counter) (n : Nat) : CountersHeld (bumpBy c n s) := by
  have small : c.index < 24 := by cases c <;> decide
  exact ⟨Laws.canonical_set _ h.form small, Laws.forall_set h.counters (by simp)⟩

theorem countersHeld_offerLoop {s : State} (h : CountersHeld s) (f : Frame) : CountersHeld (offerLoop f s) := by
  rcases offerLoop_alerts f s with e | e
  · exact ⟨by rw [e]; exact h.form, by rw [e]; exact h.counters⟩
  · have bumped := countersHeld_bumpBy h .loopDrop 1
    exact ⟨by rw [e]; exact bumped.form, by rw [e]; exact bumped.counters⟩

/-- Counters stay in range. -/
theorem countersHeld (h : Carried F s t) (hs : CountersHeld s) : CountersHeld t := by
  induction h with
  | rest _ _ h => exact ⟨by rw [h]; exact hs.form, by rw [h]; exact hs.counters⟩
  | counted n s => exact countersHeld_bumpBy hs _ n
  | looped f s => exact countersHeld_offerLoop hs f
  | trans _ _ ih₁ ih₂ => exact ih₂ (ih₁ hs)
  | _ => exact ⟨hs.form, hs.counters⟩

theorem readCounter_le_bumpBy {s : State} (h : CountersHeld s) (c : Counter) (n k : Nat) :
    readCounter s k ≤ readCounter (bumpBy c n s) k := by
  have bound := readCounter_le h c.index
  rw [Laws.readCounter_bumpBy]
  split
  · next e => subst e; omega
  · exact le_rfl

/-- Counters never fall. -/
theorem counter_le (h : Carried F s t) (hs : CountersHeld s) (k : Nat) : readCounter s k ≤ readCounter t k := by
  induction h with
  | rest _ _ h => simp only [readCounter, h]; exact le_rfl
  | counted n s => exact readCounter_le_bumpBy hs _ n k
  | looped f s =>
    rcases readCounter_offerLoop f s k with e | e <;> rw [e]
    exact readCounter_le_bumpBy hs _ 1 k
  | trans h₁ _ ih₁ ih₂ => exact le_trans (ih₁ hs) (ih₂ (h₁.countersHeld hs))
  | _ => exact le_rfl

/-- A frame that is being sent goes on being sent, whatever is offered meanwhile. -/
theorem sending (h : Carried F s t) {f : Frame} (hs : s.out.sending = some f) : t.out.sending = some f := by
  induction h with
  | rest _ h => rw [h, hs]
  | looped g s => unfold offerLoop; dsimp only; split <;> simp [admitted, hs]
  | reported g s => simp [admitted, hs]
  | trans _ _ ih₁ ih₂ => exact ih₂ (ih₁ hs)
  | _ => simpa using hs

/-- Behind a frame that is being sent, the ANSWER and STATUS classes wait as they stand, and reports enter behind the others. -/
theorem queues (h : Carried F s t) {f : Frame} (hs : s.out.sending = some f) :
    t.out.answer = s.out.answer ∧ t.out.status = s.out.status ∧ t.out.round = s.out.round ∧
      ∃ later, t.out.report = s.out.report ++ later := by
  induction h with
  | rest _ h => rw [h]; exact ⟨rfl, rfl, rfl, [], by simp⟩
  | looped g s => unfold offerLoop; dsimp only; split <;> simp [admitted, hs]
  | reported g s => simp [admitted, hs]
  | trans h₁ _ ih₁ ih₂ =>
    obtain ⟨a₁, b₁, c₁, l₁, d₁⟩ := ih₁ hs
    obtain ⟨a₂, b₂, c₂, l₂, d₂⟩ := ih₂ (h₁.sending hs)
    exact ⟨a₂.trans a₁, b₂.trans b₁, c₂.trans c₁, l₁ ++ l₂, by rw [d₂, d₁, List.append_assoc]⟩
  | _ => exact ⟨rfl, rfl, rfl, [], by simp⟩

theorem loop_eq (h : Carried F s t) (hF : F.loop = false) {f : Frame} (hs : s.out.sending = some f) :
    t.out.loop = s.out.loop := by
  induction h with
  | rest _ h => rw [h]
  | looped g s hl => rw [hF] at hl; cases hl
  | reported g s => simp [admitted, hs]
  | trans h₁ _ ih₁ ih₂ => rw [ih₂ (h₁.sending hs), ih₁ hs]
  | _ => rfl

theorem report_eq (h : Carried F s t) (hF : F.report = false) {f : Frame} (hs : s.out.sending = some f) :
    t.out.report = s.out.report := by
  induction h with
  | rest _ h => rw [h]
  | looped g s => unfold offerLoop; dsimp only; split <;> simp [admitted, hs]
  | reported g s hr => rw [hF] at hr; cases hr
  | trans h₁ _ ih₁ ih₂ => rw [ih₂ (h₁.sending hs), ih₁ hs]
  | _ => rfl

theorem admitted_budget (o : Output) : (admitted o).budget = o.budget ∧ (admitted o).refreshTimer = o.refreshTimer := by
  unfold admitted grantOutput roundGrant
  split
  · split
    · exact ⟨rfl, rfl⟩
    · split
      · dsimp only; split <;> exact ⟨rfl, rfl⟩
      · exact ⟨rfl, rfl⟩
  · exact ⟨rfl, rfl⟩

theorem offerLoop_budget (f : Frame) (s : State) :
    (offerLoop f s).out.budget = s.out.budget ∧ (offerLoop f s).out.refreshTimer = s.out.refreshTimer := by
  unfold offerLoop
  dsimp only
  split <;> simp [admitted_budget]

theorem budget_eq (h : Carried F s t) (hF : F.budget = false) : t.out.budget = s.out.budget := by
  induction h with
  | rest _ h => rw [h]
  | looped g s => exact (offerLoop_budget g s).1
  | reported g s => exact (admitted_budget _).1
  | budgeted b s hb => rw [hF] at hb; cases hb
  | trans _ _ ih₁ ih₂ => rw [ih₂, ih₁]
  | _ => simp

theorem timer_eq (h : Carried F s t) (hF : F.timer = false) : t.out.refreshTimer = s.out.refreshTimer := by
  induction h with
  | rest _ h => rw [h]
  | looped g s => exact (offerLoop_budget g s).2
  | reported g s => exact (admitted_budget _).2
  | timed t s ht => rw [hF] at ht; cases ht
  | trans _ _ ih₁ ih₂ => rw [ih₂, ih₁]
  | _ => simp

/-- The budget stays within the range of the report limit. -/
theorem budget_le (h : Carried F s t) {k : Nat} (limit : s.settings.reportLimit ≤ k)
    (hs : ∀ n, s.out.budget = .left n → n ≤ k) : ∀ n, t.out.budget = .left n → n ≤ k := by
  induction h with
  | rest _ h => rwa [h]
  | looped g s => rwa [(offerLoop_budget g s).1]
  | reported g s => rwa [(admitted_budget _).1]
  | budgeted b s hb bound =>
    intro n hn
    rcases bound n hn with h | ⟨m, hm, h⟩
    · omega
    · have := hs m hm; omega
  | trans h₁ _ ih₁ ih₂ => exact ih₂ (by rw [h₁.settings]; exact limit) (ih₁ limit hs)
  | _ => exact hs

/-- A clause of the scheduler's invariants that admission and losses keep, every traffic keeps. -/
theorem keeps {P : Output → Prop} (h : Carried F s t)
    (loop : ∀ (f : Frame) (s : State), P s.out → P (offerLoop f s).out)
    (report : ∀ (f : Frame) (o : Output), o.report.length < 32 → P o → P (admitted { o with report := o.report ++ [f] }))
    (budget : ∀ b o, P o → P { o with budget := b }) (timer : ∀ b o, P o → P { o with refreshTimer := b })
    (hs : P s.out) : P t.out := by
  induction h with
  | rest _ h => rwa [h]
  | looped f s => exact loop f s hs
  | reported f s _ room => exact report f _ room hs
  | budgeted b s => exact budget b _ hs
  | timed b s => exact timer b _ hs
  | trans _ _ ih₁ ih₂ => exact ih₂ (ih₁ hs)
  | counted n s => simpa using hs
  | raised s => exact hs
end Carried

end Sys2Proof.Traffic
end

section
/-! PROOFS. What each request does to the state, said once (R102 to R104, R119, R124, R144 to R151), and the induction over the
cells of a SET. -/

namespace Sys2Proof.Actions

set_option Elab.async false

open Sys2Proof.Machine Sys2Proof.Safety Sys2Proof.Commands

/-- What the execution of a request can leave. -/
inductive Managed (code : Nat) (m : Mgmt) (s : State) : State → Prop
  | unchanged : Managed code m s s
  | written (o : Obj) : code = 2 → objOf m.object.toNat = some o → setRefusal o m s = none →
      Managed code m s (writeCells o m.index (m.values.take m.count.toNat) s)
  | started : code = 3 → s.plan.state ≠ .running → Managed code m s (startPlan s)
  | stopped : code = 4 → Managed code m s (stopPlan s)
  | added (h w : Nat) : code = 5 → h ≤ 23 → w ≤ 511 → Managed code m s (addDefect h w s).1
  | removed (h w : Nat) : code = 6 → Managed code m s (removeDefect h w s)
  | flushed (scope head : Int) : code = 7 → Managed code m s (flushDefects scope head s)
  | cleared (flags : BitVec 12) : code = 8 → Managed code m s (clearAlerts flags s)
  | zeroed (h : Nat) : code = 9 → h ≤ 23 → boundTo s h = false → Managed code m s (zeroRunout h s)
  | restarted : code = 10 → Managed code m s (restartState s)

theorem getCells_state (m : Mgmt) (s : State) : (getCells m s).1 = s := by
  unfold getCells
  split
  · rfl
  · split <;> rfl

theorem setCells_managed (m : Mgmt) (s : State) : Managed 2 m s (setCells m s).1 := by
  unfold setCells
  split
  · exact .unchanged
  · next o ho =>
    split
    · exact .unchanged
    · next accepted => exact .written o rfl ho accepted

theorem namesDefect_iff {m : Mgmt} : namesDefect m = true ↔
    m.count.toNat = 2 ∧ 0 ≤ m.value 0 ∧ m.value 0 ≤ 23 ∧ 0 ≤ m.value 1 ∧ m.value 1 ≤ 511 := by
  simp [namesDefect, and_assoc]

theorem defectAddAction_state (m : Mgmt) (s : State) (h : namesDefect m = true) :
    (defectAddAction m s).1 = (addDefect (m.value 0).toNat (m.value 1).toNat s).1 := by
  unfold defectAddAction
  rw [if_pos h]
  split
  all_goals
    next heq => rw [heq]

theorem defectAddAction_managed (m : Mgmt) (s : State) : Managed 5 m s (defectAddAction m s).1 := by
  by_cases h : namesDefect m = true
  · rw [defectAddAction_state m s h]
    obtain ⟨-, -, head, -, wedge⟩ := namesDefect_iff.mp h
    exact .added _ _ rfl (by omega) (by omega)
  · rw [defectAddAction, if_neg h]
    exact .unchanged

/-- Every request's execution leaves what `Managed` lists. -/
theorem actionOf_managed (code : Byte) (m : Mgmt) (s : State) : Managed code.toNat m s (actionOf code m s).1 := by
  unfold actionOf
  generalize code.toNat = n
  split
  · rw [getCells_state]
    exact .unchanged
  · exact setCells_managed m s
  · unfold planStartAction
    split
    · exact .unchanged
    · next idle => exact .started rfl idle
  · exact .stopped rfl
  · exact defectAddAction_managed m s
  · unfold defectRemoveAction
    split
    · exact .removed _ _ rfl
    · exact .unchanged
  · unfold defectFlushAction
    split
    · exact .flushed _ _ rfl
    · exact .unchanged
  · unfold alertClearAction
    split
    · exact .unchanged
    · exact .cleared _ rfl
  · unfold runoutZeroAction
    split_ifs with range bound
    · exact .unchanged
    · exact .unchanged
    · exact .zeroed _ rfl (by omega) (by simpa using bound)
  · exact .restarted rfl
  · exact .unchanged

/-! ### The cells of a SET -/

/-- The clock loss at a change of W leaves the plan's state, the current step and the binding. -/
theorem unlockClock_keeps (s : State) : (unlockClock s).plan.state = s.plan.state ∧
    (unlockClock s).plan.current = s.plan.current ∧ (unlockClock s).engine.binding = s.engine.binding := by
  have returned : ∀ s, (returnToWaiting s).plan.state = s.plan.state ∧ (returnToWaiting s).plan.current = s.plan.current := by
    intro s
    unfold returnToWaiting
    split <;> exact ⟨rfl, rfl⟩
  have discarded : ∀ s, (discardAccumulation s).engine.binding = s.engine.binding := by
    intro s
    unfold discardAccumulation
    split <;> rfl
  have departed : (departure s).plan.state = s.plan.state ∧ (departure s).plan.current = s.plan.current ∧
      (departure s).engine.binding = s.engine.binding := by
    unfold departure
    split
    · obtain ⟨state, current⟩ := returned (discardAccumulation s)
      exact ⟨by simpa [clockLossNotice] using state, by simpa [clockLossNotice] using current,
        by simpa [clockLossNotice] using discarded s⟩
    · exact ⟨rfl, rfl, rfl⟩
  exact departed

theorem writeSetting_keeps (k v : Nat) (s : State) : (writeSetting k v s).plan.state = s.plan.state ∧
    (writeSetting k v s).plan.current = s.plan.current ∧ (writeSetting k v s).engine.binding = s.engine.binding := by
  unfold writeSetting
  dsimp only
  split
  · exact unlockClock_keeps _
  · exact ⟨rfl, rfl, rfl⟩

/-- Writing a cell lets no other cell of its object be held. -/
theorem heldCell_writeCell (o : Obj) (k : Nat) (v : Int) (s : State) (j : Nat) :
    heldCell (writeCell o k v s) o j = heldCell s o j := by
  cases o with
  | setting =>
    obtain ⟨state, -, binding⟩ := writeSetting_keeps k v.toNat s
    simp only [heldCell, writeCell, state, binding]
  | headrec | lintab | runout | defect | planstep | state | counter | alert => rfl

/-- The cells of an accepted SET lie within the object, can be written and are held by nothing. -/
theorem setRefusal_none {o : Obj} {m : Mgmt} {s : State} (h : setRefusal o m s = none) :
    m.count.toNat ≠ 0 ∧ m.index + m.count.toNat ≤ o.size ∧
      ∀ k, m.index ≤ k → k < m.index + m.count.toNat → readOnlyCell o k = false ∧ heldCell s o k = false := by
  unfold setRefusal at h
  split_ifs at h with range readonly held
  refine ⟨by omega, by omega, fun k lo hi => ?_⟩
  have mem : k ∈ cellsOf m := List.mem_map.mpr ⟨k - m.index, by simp; omega, by omega⟩
  simp only [List.any_eq_true, not_exists, not_and, Bool.not_eq_true] at readonly held
  exact ⟨readonly k mem, held k mem⟩

/-- What writing each cell keeps, the writing of a range keeps. -/
theorem writeCells_keeps {P : State → Prop} {o : Obj}
    (cell : ∀ k v s, readOnlyCell o k = false → heldCell s o k = false → k < o.size → P s → P (writeCell o k (storedValue o k v) s))
    (values : List Int) (k : Nat) (s : State) (bound : k + values.length ≤ o.size)
    (free : ∀ j, k ≤ j → j < k + values.length → readOnlyCell o j = false ∧ heldCell s o j = false) (hs : P s) :
    P (writeCells o k values s) := by
  induction values generalizing k s with
  | nil => exact hs
  | cons v values ih =>
    rw [List.length_cons] at bound free
    obtain ⟨writable, unheld⟩ := free k le_rfl (by omega)
    refine ih (k + 1) _ (by omega) (fun j lo hi => ?_) (cell k v s writable unheld (by omega) hs)
    rw [heldCell_writeCell]
    exact free j (by omega) (by omega)

/-- What writing each cell keeps, an accepted SET keeps. -/
theorem written_keeps {P : State → Prop} {o : Obj} {m : Mgmt} {s : State} (accepted : setRefusal o m s = none)
    (cell : ∀ k v s, readOnlyCell o k = false → heldCell s o k = false → k < o.size → P s → P (writeCell o k (storedValue o k v) s))
    (hs : P s) : P (writeCells o m.index (m.values.take m.count.toNat) s) := by
  obtain ⟨-, bound, free⟩ := setRefusal_none accepted
  have short : (m.values.take m.count.toNat).length ≤ m.count.toNat := List.length_take_le _ _
  exact writeCells_keeps cell _ _ _ (by omega) (fun j lo hi => free j lo (by omega)) hs

end Sys2Proof.Actions
end

section
/-! PROOFS. Queues, transmitters and counters (R12, R14, R134 to R142, R156): what every step keeps of them. -/

namespace Sys2Proof.Scheduling

set_option Elab.async false

open Sys2Proof.Machine Sys2Proof.Safety Sys2Proof.Commands Sys2Proof.Traffic Sys2Proof.Actions

/-! ### What a statement on ports, scheduler and alerts has to withstand -/

/-- A statement on the ports, the scheduler and the alerts that the execution of every request keeps. -/
structure KeptByActions (P : State → Prop) : Prop where
  rest : ∀ s t : State, t.link = s.link → t.out = s.out → t.alerts = s.alerts → P s → P t
  carried : ∀ s t : State, Carried anything s t → P s → P t
  flags : ∀ (s : State) (f m : BitVec 12), P s → P { s with alerts := { s.alerts with flags := f, mask := m } }
  counter : ∀ (s : State) (k : Nat), k < 24 → P s → P (writeCounter k 0 s)
  restarted : ∀ s : State, P s → P (restartState s)

/-- Such a statement that every command keeps. -/
structure KeptByCommands (P : State → Prop) : Prop extends KeptByActions P where
  reset : ∀ s, P (powerOn s)
  latch : ∀ (s : State) (l : Latch), P s → P (setLatch l s)
  fifo : ∀ (f : Frame) (s : State), P s → s.link.fifo.length < 16 →
    P { s with link := { s.link with fifo := s.link.fifo ++ [f], frontSending := true } }
  status : ∀ (f : Frame) (s : State), P s → s.out.status.length < 16 →
    P { s with out := admitted { s.out with status := s.out.status ++ [f] } }
  answer : ∀ (f : Frame) (s : State), P s → s.out.answer.length < 4 → P (offerAnswer f s)
  frontEnd : ∀ s, P s → P (frontTransmitEnd s)
  benchEnd : ∀ s, P s → P (benchTransmitEnd s)

section
variable {P : State → Prop}

theorem KeptByActions.writeCell (h : KeptByActions P) {o : Obj} {k : Nat} {v : Int} {s : State} (bound : k < o.size)
    (hs : P s) : P (Machine.writeCell o k v s) := by
  cases o with
  | setting =>
    have stored := fun t => h.rest s { s with settings := t } rfl rfl rfl hs
    simp only [Machine.writeCell, writeSetting]
    split
    · exact h.carried _ _ ((unlockClock_carried _).mono (by decide)) (stored _)
    · exact stored _
  | counter => exact h.counter s k bound hs
  | alert => exact h.flags s _ _ hs
  | headrec | lintab | runout | planstep => exact h.rest s _ rfl rfl rfl hs
  | defect | state => exact hs

theorem addDefect_carried (h w : Nat) (s : State) : Carried notices s (addDefect h w s).1 := by
  unfold addDefect
  split
  · exact .rest rfl rfl rfl rfl
  · split
    · exact .rest rfl rfl rfl rfl
    · split
      · exact (evict_carried _ s).andRest (out := rfl) (alerts := rfl)
      · exact .refl s

theorem KeptByActions.managed (h : KeptByActions P) {code : Nat} {m : Mgmt} {s t : State} (action : Managed code m s t)
    (hs : P s) : P t := by
  cases action with
  | unchanged => exact hs
  | written o _ _ accepted => exact written_keeps accepted (fun _ _ _ _ _ bound => h.writeCell bound) hs
  | started => exact h.carried _ _ ((startPlan_carried s).mono (by decide)) hs
  | stopped => exact h.carried _ _ ((stopPlan_carried s).mono (by decide)) hs
  | added => exact h.carried _ _ ((addDefect_carried _ _ s).mono (by decide)) hs
  | removed | flushed | zeroed => exact h.rest s _ rfl rfl rfl hs
  | cleared flags => exact h.flags s _ _ hs
  | restarted => exact h.restarted s hs

theorem frontLinkError_carried (cause : LinkCause) (s : State) : Carried anything s (frontLinkError cause s) :=
  .trans (counted_bump s (by cases cause <;> decide)) (.raised _ (by decide))

theorem refreshTimerExpiry_carried (s : State) : Carried anything s (refreshTimerExpiry s) := by
  unfold refreshTimerExpiry
  split
  · exact .trans (refreshBudget_carried s rfl) (.timed _ _ rfl)
  · exact .refl s

theorem KeptByCommands.benchLinkError (h : KeptByCommands P) (cause : LinkCause) (s : State) (hs : P s) :
    P (Machine.benchLinkError cause s) := by
  have counted : Carried anything s (raise .benchLinkError (bump cause.benchCounter s)) :=
    .trans (counted_bump s (by cases cause <;> decide)) (.raised _ (by decide))
  exact h.latch _ _ (h.carried _ _ counted hs)

theorem KeptByCommands.offerFifo (h : KeptByCommands P) (f : Frame) (s : State) (hs : P s) : P (Machine.offerFifo f s) := by
  unfold Machine.offerFifo
  split
  · next room => exact h.fifo f s hs room
  · have counted : Carried anything s (bump .frontTransmitDrop s) := counted_bump s (by decide)
    exact h.carried _ _ (.raised _ (by decide)) (h.latch _ _ (h.carried _ _ counted hs))

theorem KeptByCommands.offerStatus (h : KeptByCommands P) (f : Frame) (s : State) (hs : P s) : P (Machine.offerStatus f s) := by
  unfold Machine.offerStatus
  split
  · next room => exact h.status f s hs room
  · exact h.carried _ _ (counted_bump s (by decide)) hs

end

/-! ### The ANSWER queue during an execution -/

/-- Grants only take frames out of the queues. -/
theorem grantOutput_lengths (o : Output) :
    (grantOutput o).loop.length ≤ o.loop.length ∧ (grantOutput o).answer.length ≤ o.answer.length ∧
      (grantOutput o).report.length ≤ o.report.length ∧ (grantOutput o).status.length ≤ o.status.length ∧
      (o.round ≤ 6 → (grantOutput o).round ≤ 6) := by
  unfold grantOutput
  split
  · next loop => simp [loop]
  · split
    · next c _ =>
      have advanced : (if o.round < 6 then o.round + 1 else 0) ≤ 6 := by split <;> omega
      cases c <;> simp [roundGrant, advanced]
    · simp

theorem admitted_lengths (o : Output) :
    (admitted o).loop.length ≤ o.loop.length ∧ (admitted o).answer.length ≤ o.answer.length ∧
      (admitted o).report.length ≤ o.report.length ∧ (admitted o).status.length ≤ o.status.length ∧
      (o.round ≤ 6 → (admitted o).round ≤ 6) := by
  unfold admitted
  split
  · exact grantOutput_lengths o
  · exact ⟨le_rfl, le_rfl, le_rfl, le_rfl, id⟩

/-- The output after an offer to the LOOP class, whose queue loses its oldest frame if it is full (R135). -/
theorem offerLoop_out (f : Frame) (s : State) : (offerLoop f s).out =
    admitted { s.out with loop := (if s.out.loop.length < 8 then s.out.loop else s.out.loop.tail) ++ [f] } := by
  rcases Nat.lt_or_ge s.out.loop.length 8 with room | full
  · rw [Laws.offerLoop_room f s room, if_pos room]
  · rw [Laws.offerLoop_full f s full, if_neg (by omega)]
    rfl

theorem answerRoom_kept : KeptByActions fun s => s.out.answer.length < 4 where
  rest _ _ _ out _ h := by rwa [out]
  carried s t h room := by
    refine h.keeps (P := fun o => o.answer.length < 4) (fun f s h => ?_) (fun f o _ h => ?_) (fun _ _ h => h) (fun _ _ h => h) room
    · rw [offerLoop_out]
      exact lt_of_le_of_lt (admitted_lengths _).2.1 h
    · exact lt_of_le_of_lt (admitted_lengths _).2.1 h
  flags _ _ _ h := h
  counter _ _ _ h := h
  restarted _ _ := by simp [restartState, restartOutput]

section
variable {P : State → Prop}

/-- A statement that every command keeps, every effect keeps. -/
theorem KeptByCommands.effect (h : KeptByCommands P) (c : Instr) (s t : State) (hs : P s) (effect : Effect c s t) : P t := by
  cases effect with
  | powerOn => exact h.reset s
  | frontFailed cause => exact h.carried _ _ (frontLinkError_carried cause s) hs
  | benchFailed cause => exact h.benchLinkError cause s hs
  | wedge arrival bytes => exact h.carried _ _ (takeWedge_carried arrival _ bytes s) hs
  | status bytes => exact h.offerStatus bytes s hs
  | hold bytes => exact h.offerFifo bytes _ (h.carried _ _ ((readHoldFrame_carried _ s).mono (by decide)) hs)
  | fifo bytes => exact h.offerFifo bytes s hs
  | discarded =>
    have counted : Carried anything s (bump .answerDrop s) := counted_bump s (by decide)
    exact h.carried _ _ (.trans counted (.raised _ (by decide))) hs
  | request code object r _ room =>
    have action := actionOf_managed code (readRequest code object r) s
    have still : (actionOf code (readRequest code object r) s).1.out.answer.length < 4 := answerRoom_kept.managed action room
    exact h.answer _ _ (h.latch _ _ (h.managed action hs)) still
  | missed => exact h.carried _ _ ((declareMissed_carried s).mono (by decide)) hs
  | idle => exact h.carried _ _ ((idleExpiry_carried s).mono (by decide)) hs
  | wait => exact h.carried _ _ ((waitTimerExpiry_carried s).mono (by decide)) hs
  | refresh => exact h.carried _ _ (refreshTimerExpiry_carried s) hs
  | frontEnd => exact h.frontEnd s hs
  | benchEnd => exact h.benchEnd s hs

/-- And every step, if it does not read the queue of waiting commands. -/
theorem KeptByCommands.step (h : KeptByCommands P) (s t : State) (hs : P s) (hstep : step s = .next t) : P t :=
  step_keeps (fun s _ => h.rest s _ rfl rfl rfl) h.effect s t hs hstep
end

/-! ### Capacities -/

/-- The clauses of the capacities on the scheduler. -/
structure OutputHeld (o : Output) : Prop where
  loop : o.loop.length ≤ 8
  answer : o.answer.length ≤ 4
  report : o.report.length ≤ 32
  status : o.status.length ≤ 16
  round : o.round ≤ 6

theorem capacitiesHeld_iff {s : State} : CapacitiesHeld s ↔ OutputHeld s.out ∧ s.link.fifo.length ≤ 16 :=
  ⟨fun h => ⟨⟨h.loop, h.answer, h.report, h.status, h.round⟩, h.fifo⟩,
    fun ⟨o, fifo⟩ => ⟨o.loop, o.answer, o.report, o.status, fifo, o.round⟩⟩

theorem OutputHeld.granted {o : Output} (h : OutputHeld o) : OutputHeld (grantOutput o) := by
  obtain ⟨loop, answer, report, status, round⟩ := grantOutput_lengths o
  exact ⟨loop.trans h.loop, answer.trans h.answer, report.trans h.report, status.trans h.status, round h.round⟩

theorem OutputHeld.admitted {o : Output} (h : OutputHeld o) : OutputHeld (admitted o) := by
  obtain ⟨loop, answer, report, status, round⟩ := admitted_lengths o
  exact ⟨loop.trans h.loop, answer.trans h.answer, report.trans h.report, status.trans h.status, round h.round⟩

theorem OutputHeld.offerLoop {s : State} (h : OutputHeld s.out) (f : Frame) : OutputHeld (offerLoop f s).out := by
  rw [offerLoop_out]
  have loop := h.loop
  refine OutputHeld.admitted ⟨?_, h.answer, h.report, h.status, h.round⟩
  split <;> simp <;> omega

theorem capacities_kept : KeptByCommands CapacitiesHeld where
  rest s t link out _ h := by
    rw [capacitiesHeld_iff] at h ⊢
    rwa [link, out]
  carried s t h hs := by
    rw [capacitiesHeld_iff] at hs ⊢
    rw [h.link]
    refine ⟨h.keeps (P := OutputHeld) (fun f s hs => hs.offerLoop f) (fun f o room ho => ?_)
      (fun _ _ ho => ⟨ho.loop, ho.answer, ho.report, ho.status, ho.round⟩)
      (fun _ _ ho => ⟨ho.loop, ho.answer, ho.report, ho.status, ho.round⟩) hs.1, hs.2⟩
    exact OutputHeld.admitted ⟨ho.loop, ho.answer, by simp; omega, ho.status, ho.round⟩
  flags s _ _ h := ⟨h.loop, h.answer, h.report, h.status, h.fifo, h.round⟩
  counter s _ _ h := ⟨h.loop, h.answer, h.report, h.status, h.fifo, h.round⟩
  restarted s h := by
    rw [capacitiesHeld_iff]
    refine ⟨by constructor <;> simp [restartState, restartOutput], ?_⟩
    simp only [restartState, restartLink]
    split <;> simp
  reset s := by constructor <;> simp [powerOn, State.reset]
  latch s _ h := ⟨h.loop, h.answer, h.report, h.status, h.fifo, h.round⟩
  fifo f s h room := ⟨h.loop, h.answer, h.report, h.status, by simp; omega, h.round⟩
  status f s h room := by
    rw [capacitiesHeld_iff] at h ⊢
    obtain ⟨ho, fifo⟩ := h
    exact ⟨OutputHeld.admitted ⟨ho.loop, ho.answer, ho.report, by simp; omega, ho.round⟩, fifo⟩
  answer f s h room := by
    rw [capacitiesHeld_iff] at h ⊢
    obtain ⟨ho, fifo⟩ := h
    exact ⟨OutputHeld.admitted ⟨ho.loop, by simp; omega, ho.report, ho.status, ho.round⟩, fifo⟩
  frontEnd s h := by
    have fifo := h.fifo
    unfold frontTransmitEnd
    split
    · exact ⟨h.loop, h.answer, h.report, h.status, by simp; omega, h.round⟩
    · exact h
  benchEnd s h := by
    rw [capacitiesHeld_iff] at h ⊢
    obtain ⟨ho, fifo⟩ := h
    unfold benchTransmitEnd
    split
    · exact ⟨OutputHeld.granted ⟨ho.loop, ho.answer, ho.report, ho.status, ho.round⟩, fifo⟩
    · exact ⟨ho, fifo⟩

/-! ### Transmitters -/

/-- The bench-port transmitter idles only while nothing waits. -/
def BenchAtWork (o : Output) : Prop :=
  o.sending = none → o.loop = [] ∧ o.answer = [] ∧ o.report = [] ∧ o.status = []

/-- A grant leaves the transmitter idle only where nothing waits. -/
theorem benchAtWork_grantOutput (o : Output) : BenchAtWork (grantOutput o) := by
  unfold grantOutput
  split
  · intro h
    cases h
  · next loop =>
    split
    · next c choice =>
      intro idle
      have waiting := Laws.roundChoice_queue o c choice
      have none : (c.queue o).head? = none := by cases c <;> exact idle
      exact absurd (List.head?_eq_none_iff.mp none) waiting
    · next choice =>
      obtain ⟨answer, report, status⟩ := (Laws.roundChoice_none o).mp choice
      exact fun _ => ⟨loop, answer, report, status⟩

theorem benchAtWork_admitted (o : Output) : BenchAtWork (admitted o) := by
  unfold admitted
  split
  · exact benchAtWork_grantOutput o
  · next busy =>
    intro idle
    simp [idle] at busy

theorem transmitters_kept : KeptByCommands TransmittersHeld where
  rest s t link out _ h := ⟨by rw [out]; exact h.bench, by rw [link]; exact h.front⟩
  carried s t h hs := by
    refine ⟨h.keeps (P := BenchAtWork) (fun f s _ => ?_) (fun f o _ _ => benchAtWork_admitted _) (fun _ _ ho => ho)
      (fun _ _ ho => ho) hs.bench, by rw [h.link]; exact hs.front⟩
    rw [offerLoop_out]
    exact benchAtWork_admitted _
  flags s _ _ h := ⟨h.bench, h.front⟩
  counter s _ _ h := ⟨h.bench, h.front⟩
  restarted s h := by
    refine ⟨fun _ => ⟨rfl, rfl, rfl, rfl⟩, ?_⟩
    have front := h.front
    simp only [restartState, restartLink]
    split
    · next sending => simpa [sending] using front.mp sending
    · next idle => simpa using idle
  reset s := by constructor <;> simp [powerOn, State.reset]
  latch s _ h := ⟨h.bench, h.front⟩
  fifo f s h room := ⟨h.bench, by simp⟩
  status f s h room := ⟨benchAtWork_admitted _, h.front⟩
  answer f s h room := ⟨benchAtWork_admitted _, h.front⟩
  frontEnd s h := by
    unfold frontTransmitEnd
    split
    · exact ⟨h.bench, by simp⟩
    · exact h
  benchEnd s h := by
    unfold benchTransmitEnd
    split
    · exact ⟨benchAtWork_grantOutput _, h.front⟩
    · exact h

/-! ### Counters -/

theorem countersHeld_clear {s : State} (h : CountersHeld s) {k : Nat} (hk : k < 24) : CountersHeld (writeCounter k 0 s) :=
  ⟨Laws.canonical_set 0 h.form hk, Laws.forall_set (d := 0) (k := k) (v := 0) h.counters (by simp)⟩

theorem counters_kept : KeptByCommands CountersHeld where
  rest s t _ _ alerts h := ⟨by rw [alerts]; exact h.form, by rw [alerts]; exact h.counters⟩
  carried s t h hs := h.countersHeld hs
  flags s _ _ h := ⟨h.form, h.counters⟩
  counter s k hk h := countersHeld_clear h hk
  restarted s _ := ⟨rfl, by simp [restartState]⟩
  reset s := ⟨rfl, by simp [powerOn, State.reset]⟩
  latch s _ h := ⟨h.form, h.counters⟩
  fifo f s h _ := ⟨h.form, h.counters⟩
  status f s h _ := ⟨h.form, h.counters⟩
  answer f s h _ := ⟨h.form, h.counters⟩
  frontEnd s h := ⟨by simpa using h.form, by simpa using h.counters⟩
  benchEnd s h := ⟨by simpa using h.form, by simpa using h.counters⟩

/-- Settles O59. -/
theorem queuesTransmittersAndCountersHold : Obligations.QueuesTransmittersAndCountersHold :=
  ⟨capacities_kept.step, transmitters_kept.step, counters_kept.step⟩

end Sys2Proof.Scheduling
end

section
/-! PROOFS. Who writes what: the flags and counters (R153, R156), the tables, contexts and the mask. A well-formed command's row
names its request code and object, so each writer is one of a few rows. -/

namespace Sys2Proof.Writers

set_option Elab.async false

open Sys2Proof.Machine Sys2Proof.Safety Sys2Proof.Commands Sys2Proof.Traffic Sys2Proof.Actions Sys2Proof.Scheduling

/-! ### The row of a request -/

/-- The rows of a SET, by its object (R147). -/
inductive SetRow (object : Byte) (r : Request) : Instr → Prop
  | set : object ≠ 2 → object ≠ 8 → (object ≠ 9 ∨ r.index ≠ 1) → SetRow object r (.set object r)
  | counter : object = 8 → SetRow object r (.setCounter r)
  | mask : object = 9 → SetRow object r (.setAlertMask r)
  | wedges : object = 1 → SetRow object r (.setWedgesPerRevolution r)
  | headrec : object = 2 → SetRow object r (.setHeadrec r)

/-- A well-formed request stands in the row of its code. -/
theorem row_of_code {c : Instr} {code object : Byte} {r : Request} (wf : c.wellFormed = true)
    (row : requestOf c = some (code, object, r)) :
    match code.toNat with
    | 2 => SetRow object r c
    | 5 => c = .defectAdd object r
    | 6 => c = .defectRemove object r
    | 7 => c = .defectFlush object r
    | 8 => c = .alertClear object r
    | 9 => c = .runoutZero object r
    | 10 => c = .restart object r
    | _ => True := by
  cases c with
  | unknownRequest code' object' r' =>
    cases row
    have other : code.toNat = 0 ∨ 10 < code.toNat := by simpa [Instr.wellFormed, ← BitVec.toNat_inj] using wf
    split <;> try omega
    trivial
  | set object' r' =>
    cases row
    have other : ((object ≠ 2 ∧ object ≠ 8) ∧ (object ≠ 1 ∨ r.covers 1 = false)) ∧ (object ≠ 9 ∨ r.index ≠ 1) := by
      simpa [Instr.wellFormed, setHasOwnRow] using wf
    exact .set other.1.1.1 other.1.1.2 other.2
  | setCounter => cases row; exact .counter rfl
  | setAlertMask => cases row; exact .mask rfl
  | setWedgesPerRevolution => cases row; exact .wedges rfl
  | setHeadrec => cases row; exact .headrec rfl
  | get | planStart | planStop => cases row; trivial
  | defectAdd | defectRemove | defectFlush | alertClear | runoutZero | restart => cases row; rfl
  | _ => cases row

theorem objOf_headrec {b : Byte} (h : objOf b.toNat = some .headrec) : b = 2 := by
  unfold objOf at h
  split at h <;> cases h
  bv_omega

theorem objOf_alert {b : Byte} (h : objOf b.toNat = some .alert) : b = 9 := by
  unfold objOf at h
  split at h <;> cases h
  bv_omega

theorem objOf_counter {b : Byte} (h : objOf b.toNat = some .counter) : b = 8 := by
  unfold objOf at h
  split at h <;> cases h
  bv_omega

/-! ### The writers of each table -/

/-- The tables that writing cells of an object leaves. -/
structure Spared (o : Obj) (s t : State) : Prop where
  settings : o ≠ .setting → t.settings = s.settings
  steps : o ≠ .planstep → t.steps = s.steps
  linTab : o ≠ .lintab → t.linTab = s.linTab
  headRecs : o ≠ .headrec → t.headRecs = s.headRecs
  runout : o ≠ .runout → t.runout = s.runout
  contexts : t.contexts = s.contexts
  activeHead : t.activeHead = s.activeHead
  defects : t.defects = s.defects

theorem spared_writeCell (o : Obj) (k : Nat) (v : Int) (s : State) : Spared o s (writeCell o k v s) := by
  cases o with
  | setting =>
    simp only [writeCell, writeSetting]
    split <;> constructor <;> simp
  | headrec | lintab | runout | defect | planstep | state | counter | alert => constructor <;> simp [writeCell]

theorem Spared.trans {o : Obj} {s t u : State} (h₁ : Spared o s t) (h₂ : Spared o t u) : Spared o s u :=
  ⟨fun e => (h₂.settings e).trans (h₁.settings e), fun e => (h₂.steps e).trans (h₁.steps e),
    fun e => (h₂.linTab e).trans (h₁.linTab e), fun e => (h₂.headRecs e).trans (h₁.headRecs e),
    fun e => (h₂.runout e).trans (h₁.runout e), h₂.contexts.trans h₁.contexts, h₂.activeHead.trans h₁.activeHead,
    h₂.defects.trans h₁.defects⟩

theorem spared_writeCells (o : Obj) (values : List Int) (k : Nat) (s : State) : Spared o s (writeCells o k values s) := by
  induction values generalizing k s with
  | nil => constructor <;> simp [writeCells]
  | cons v values ih => exact (spared_writeCell o k _ s).trans (ih _ _)

/-- Each table is as it was, or the command is one of its writers. -/
structure Written (c : Instr) (s t : State) : Prop where
  settings : t.settings = s.settings ∨ c = .powerOnReset ∨ (∃ o r, c = .set o r) ∨ ∃ r, c = .setWedgesPerRevolution r
  loaded : (t.steps = s.steps ∧ t.linTab = s.linTab) ∨ c = .powerOnReset ∨ ∃ o r, c = .set o r
  headRecs : t.headRecs = s.headRecs ∨ c = .powerOnReset ∨ (∃ a f, c = .wedge a f) ∨ ∃ r, c = .setHeadrec r
  runout : t.runout = s.runout ∨ c = .powerOnReset ∨ (∃ a f, c = .wedge a f) ∨ (∃ o r, c = .set o r) ∨ ∃ o r, c = .runoutZero o r
  contexts : t.contexts = s.contexts ∨ c = .powerOnReset ∨ (∃ a f, c = .wedge a f) ∨ (∃ f, c = .hold f) ∨ ∃ o r, c = .restart o r
  activeHead : t.activeHead = s.activeHead ∨ c = .powerOnReset ∨ (∃ a f, c = .wedge a f) ∨ ∃ o r, c = .restart o r
  defects : t.defects = s.defects ∨ c = .powerOnReset ∨ (∃ a f, c = .wedge a f) ∨ (∃ o r, c = .defectAdd o r) ∨
    (∃ o r, c = .defectRemove o r) ∨ (∃ o r, c = .defectFlush o r) ∨ ∃ o r, c = .restart o r

section
variable {c : Instr} {s t : State}

/-- The one writable cell of ALERT is the mask's (R145). -/
theorem index_of_mask {code object : Byte} {r : Request}
    (accepted : setRefusal .alert (readRequest code object r) s = none) : r.index = 1 := by
  obtain ⟨some, bound, writable⟩ := setRefusal_none accepted
  simp only [readRequest, Obj.size] at some bound writable
  have nonzero : r.index.toNat ≠ 0 := fun zero => by
    have first := (writable r.index.toNat le_rfl (by omega)).1
    simp [readOnlyCell, zero] at first
  bv_omega

/-- A SET writes its object alone. -/
theorem written_set {object : Byte} {r : Request} (row : SetRow object r c) {o : Obj} (names : objOf object.toNat = some o)
    (spared : Spared o s t) : Written c s t := by
  cases row with
  | set other =>
    have headRecs := spared.headRecs fun e => other (objOf_headrec (e ▸ names))
    exact ⟨by simp, by simp, .inl headRecs, by simp, .inl spared.contexts, .inl spared.activeHead, .inl spared.defects⟩
  | counter h | mask h | wedges h | headrec h =>
    subst h
    cases names
    exact ⟨by simp [spared.settings], by simp [spared.steps, spared.linTab], by simp [spared.headRecs],
      by simp [spared.runout], .inl spared.contexts, .inl spared.activeHead, .inl spared.defects⟩

theorem managed_written {code object : Byte} {r : Request} (wf : c.wellFormed = true)
    (row : requestOf c = some (code, object, r)) (action : Managed code.toNat (readRequest code object r) s t) :
    Written c s t := by
  have named := row_of_code wf row
  cases action with
  | unchanged | started | stopped | cleared => constructor <;> simp
  | written o h names =>
    rw [h] at named
    exact written_set named names (spared_writeCells o _ _ s)
  | added _ _ h | removed _ _ h | flushed _ _ h | zeroed _ h =>
    rw [h] at named
    cases named
    constructor <;> simp
  | restarted h =>
    rw [h] at named
    cases named
    constructor <;> simp [restartState]

/-- Every effect of a well-formed command writes what its row may write. -/
theorem effect_written (wf : c.wellFormed = true) (h : Effect c s t) : Written c s t := by
  cases h with
  | powerOn h => subst h; constructor <;> simp
  | wedge arrival bytes _ _ _ row =>
    obtain ⟨f, rfl⟩ := row wf
    constructor <;> simp
  | hold bytes row =>
    obtain ⟨f, rfl⟩ := row wf
    constructor <;> simp
  | request code object r row =>
    obtain ⟨settings, loaded, headRecs, runout, contexts, activeHead, defects⟩ :=
      managed_written wf (row wf) (actionOf_managed code (readRequest code object r) s)
    constructor <;> simpa
  | _ => constructor <;> simp

end

/-! ### The writers of flags, counters and the mask -/

/-- A statement on the alerts that the command keeps, whatever its row may write of them. -/
structure KeptAlerts (c : Instr) (P : State → Prop) : Prop where
  rest : ∀ s t : State, t.alerts = s.alerts → P s → P t
  carried : ∀ s t : State, Carried anything s t → P s → P t
  reset : ∀ s, c = .powerOnReset → P (powerOn s)
  cleared : ∀ o r, c = .alertClear o r → ∀ f s, P s → P (clearAlerts f s)
  restarted : ∀ o r, c = .restart o r → ∀ s, P s → P (restartState s)
  counter : ∀ r, c = .setCounter r → ∀ k s, P s → P (writeCounter k 0 s)
  mask : ∀ r, c = .setAlertMask r → ∀ m s, P s → P (setMask m s)

namespace KeptAlerts
variable {c : Instr} {P : State → Prop} {s t : State}

theorem set (h : KeptAlerts c P) {code object : Byte} {r : Request} (row : SetRow object r c) {o : Obj}
    (names : objOf object.toNat = some o) (accepted : setRefusal o (readRequest code object r) s = none) (hs : P s) :
    P (writeCells o r.index.toNat ((readRequest code object r).values.take r.count.toNat) s) := by
  refine written_keeps (P := P) accepted (fun k v s _ _ _ hs => ?_) hs
  cases o with
  | setting =>
    have stored := fun t => h.rest s { s with settings := t } rfl hs
    simp only [writeCell, writeSetting]
    split
    · exact h.carried _ _ ((unlockClock_carried _).mono (by decide)) (stored _)
    · exact stored _
  | counter =>
    cases row with
    | set _ other => exact absurd (objOf_counter names) other
    | counter => exact h.counter r rfl k s hs
    | mask e | wedges e | headrec e => subst e; cases names
  | alert =>
    cases row with
    | set _ _ other =>
      have index := index_of_mask accepted
      have object := objOf_alert names
      simp [index, object] at other
    | mask => exact h.mask r rfl _ s hs
    | counter e | wedges e | headrec e => subst e; cases names
  | headrec | lintab | runout | planstep | defect | state => exact h.rest s _ rfl hs

theorem managed (h : KeptAlerts c P) {code object : Byte} {r : Request} (wf : c.wellFormed = true)
    (row : requestOf c = some (code, object, r)) (action : Managed code.toNat (readRequest code object r) s t) (hs : P s) :
    P t := by
  have named := row_of_code wf row
  cases action with
  | written o e names accepted =>
    rw [e] at named
    exact h.set named names accepted hs
  | started => exact h.carried _ _ ((startPlan_carried s).mono (by decide)) hs
  | stopped => exact h.carried _ _ ((stopPlan_carried s).mono (by decide)) hs
  | added => exact h.carried _ _ ((addDefect_carried _ _ s).mono (by decide)) hs
  | cleared flags e =>
    rw [e] at named
    exact h.cleared _ _ named flags s hs
  | restarted e =>
    rw [e] at named
    exact h.restarted _ _ named s hs
  | unchanged | removed | flushed | zeroed => exact h.rest s _ rfl hs

theorem fifo (h : KeptAlerts c P) (bytes : Frame) (hs : P s) : P (offerFifo bytes s) := by
  unfold offerFifo
  split
  · exact h.rest s _ rfl hs
  · have counted := h.carried _ _ (counted_bump (c := .frontTransmitDrop) s (by decide)) hs
    exact h.carried _ _ (.raised (a := .benchLinkError) _ (by decide)) (h.rest (bump .frontTransmitDrop s) _ rfl counted)

theorem effect (h : KeptAlerts c P) (wf : c.wellFormed = true) (effect : Effect c s t) (hs : P s) : P t := by
  have counted : ∀ d ∈ anything.counters, P (bump d s) := fun d hd => h.carried _ _ (counted_bump s hd) hs
  cases effect with
  | powerOn e => exact h.reset s e
  | frontFailed cause => exact h.carried _ _ (frontLinkError_carried cause s) hs
  | benchFailed cause =>
    have failed := h.carried _ _ (.raised (a := .benchLinkError) _ (by decide)) (counted cause.benchCounter (by cases cause <;> decide))
    exact h.rest (raise .benchLinkError (bump cause.benchCounter s)) _ rfl failed
  | wedge arrival bytes => exact h.carried _ _ (takeWedge_carried arrival _ bytes s) hs
  | status bytes =>
    unfold offerStatus
    split
    · exact h.rest s _ rfl hs
    · exact counted _ (by decide)
  | hold bytes => exact h.fifo bytes (h.carried _ _ ((readHoldFrame_carried _ s).mono (by decide)) hs)
  | fifo bytes => exact h.fifo bytes hs
  | discarded => exact h.carried _ _ (.raised _ (by decide)) (counted _ (by decide))
  | request code object r row =>
    have action := actionOf_managed code (readRequest code object r) s
    exact h.rest _ _ (by simp) (h.managed wf (row wf) action hs)
  | missed => exact h.carried _ _ ((declareMissed_carried s).mono (by decide)) hs
  | idle => exact h.carried _ _ ((idleExpiry_carried s).mono (by decide)) hs
  | wait => exact h.carried _ _ ((waitTimerExpiry_carried s).mono (by decide)) hs
  | refresh => exact h.carried _ _ (refreshTimerExpiry_carried s) hs
  | frontEnd | benchEnd => exact h.rest s _ (by simp) hs

end KeptAlerts

/-- The mask is as it was, unless its own SET or power-on reset writes it. -/
theorem mask_kept (c : Instr) (s : State) (power : c ≠ .powerOnReset) (set : ∀ r, c ≠ .setAlertMask r) :
    KeptAlerts c fun t => t.alerts.mask = s.alerts.mask where
  rest _ _ alerts h := by rwa [alerts]
  carried _ _ h hs := h.mask.trans hs
  reset _ e := absurd e power
  cleared _ _ _ _ _ h := h
  restarted _ _ _ _ h := h
  counter _ _ _ _ h := h
  mask r e := absurd e (set r)

/-- The flags that are set stay set, unless ALERT_CLEAR, RESTART or power-on reset clears them. -/
theorem flags_kept (c : Instr) (s : State) (power : c ≠ .powerOnReset) (clear : ∀ o r, c ≠ .alertClear o r)
    (restart : ∀ o r, c ≠ .restart o r) :
    KeptAlerts c fun t => ∀ i, s.alerts.flags.getLsbD i = true → t.alerts.flags.getLsbD i = true where
  rest _ _ alerts h := by rwa [alerts]
  carried _ _ h hs i hi := h.flag_stays (hs i hi)
  reset _ e := absurd e power
  cleared o r e := absurd e (clear o r)
  restarted o r e := absurd e (restart o r)
  counter _ _ _ _ h := h
  mask _ _ _ _ h := h

/-- No counter falls, unless a SET of counters, RESTART or power-on reset clears it. -/
theorem counters_kept (c : Instr) (s : State) (power : c ≠ .powerOnReset) (set : ∀ r, c ≠ .setCounter r)
    (restart : ∀ o r, c ≠ .restart o r) :
    KeptAlerts c fun t => CountersHeld t ∧ ∀ k, readCounter s k ≤ readCounter t k where
  rest t u alerts h := by
    refine ⟨⟨by rw [alerts]; exact h.1.form, by rw [alerts]; exact h.1.counters⟩, fun k => ?_⟩
    have same : readCounter u k = readCounter t k := by simp only [readCounter, alerts]
    exact same ▸ h.2 k
  carried _ _ h hs := ⟨h.countersHeld hs.1, fun k => (hs.2 k).trans (h.counter_le hs.1 k)⟩
  reset _ e := absurd e power
  cleared _ _ _ _ _ h := ⟨⟨h.1.form, h.1.counters⟩, h.2⟩
  restarted o r e := absurd e (restart o r)
  counter r e := absurd e (set r)
  mask _ _ _ _ h := ⟨⟨h.1.form, h.1.counters⟩, h.2⟩

/-- Flags that stay set, as the statement writes it. -/
theorem and_eq_of_stays {f g : BitVec 12} (h : ∀ i, f.getLsbD i = true → g.getLsbD i = true) : f &&& g = f := by
  apply BitVec.eq_of_getLsbD_eq
  intro i _
  rw [BitVec.getLsbD_and]
  have := h i
  cases hf : f.getLsbD i <;> simp_all

/-- Settles O52. -/
theorem alertsAndCountersOnlyRise : Obligations.AlertsAndCountersOnlyRise := by
  intro c s t wf held run
  have effect := effect_of_exec run
  constructor
  · split
    · trivial
    · trivial
    · trivial
    · next power clear restart =>
      exact and_eq_of_stays ((flags_kept c s power clear restart).effect wf effect fun _ hi => hi)
  · split
    · trivial
    · trivial
    · trivial
    · next power set restart =>
      exact ((counters_kept c s power set restart).effect wf effect ⟨held, fun _ => le_rfl⟩).2

/-- Settles O53. -/
theorem eachTableHasItsWriters : Obligations.EachTableHasItsWriters := by
  intro c s t wf run
  have effect := effect_of_exec run
  obtain ⟨settings, loaded, headRecs, runout, contexts, activeHead, defects⟩ := effect_written wf effect
  refine ⟨?_, ?_, ?_, ?_, ?_, ?_, ?_, ?_⟩
  · rcases settings with h | rfl | ⟨o, r, rfl⟩ | ⟨r, rfl⟩
    · split <;> trivial
    all_goals trivial
  · rcases loaded with h | rfl | ⟨o, r, rfl⟩
    · split <;> trivial
    all_goals trivial
  · rcases headRecs with h | rfl | ⟨a, f, rfl⟩ | ⟨r, rfl⟩
    · split <;> trivial
    all_goals trivial
  · rcases runout with h | rfl | ⟨a, f, rfl⟩ | ⟨o, r, rfl⟩ | ⟨o, r, rfl⟩
    · split <;> trivial
    all_goals trivial
  · rcases contexts with h | rfl | ⟨a, f, rfl⟩ | ⟨f, rfl⟩ | ⟨o, r, rfl⟩
    · split <;> trivial
    all_goals trivial
  · rcases activeHead with h | rfl | ⟨a, f, rfl⟩ | ⟨o, r, rfl⟩
    · split <;> trivial
    all_goals trivial
  · rcases defects with h | rfl | ⟨a, f, rfl⟩ | ⟨o, r, rfl⟩ | ⟨o, r, rfl⟩ | ⟨o, r, rfl⟩ | ⟨o, r, rfl⟩
    · split <;> trivial
    all_goals trivial
  · split
    · trivial
    · trivial
    · next power set => exact (mask_kept c s power set).effect wf effect rfl

end Sys2Proof.Writers
end

section
/-! PROOFS. Clamped values and the settings table (R147, R148): every command keeps the settings in their ranges. -/

namespace Sys2Proof.Ranges

set_option Elab.async false

open Sys2Proof.Machine Sys2Proof.Safety Sys2Proof.Commands Sys2Proof.Actions

/-! ### Clamping -/

theorem clamp_mem {lo hi : Int} (h : lo ≤ hi) (x : Int) : lo ≤ clamp lo hi x ∧ clamp lo hi x ≤ hi := by
  unfold clamp
  split_ifs <;> omega

theorem clamp_of_mem {lo hi x : Int} (lower : lo ≤ x) (upper : x ≤ hi) : clamp lo hi x = x := by
  unfold clamp
  split_ifs <;> omega

theorem clamp_eq (lo hi x : Int) (h : lo ≤ hi) : clamp lo hi x = max lo (min hi x) := by
  unfold clamp
  split_ifs <;> omega

/-- A clamped value that cannot be negative, as a natural number. -/
theorem clamp_toNat (lo hi : Nat) (h : lo ≤ hi) (x : Int) :
    lo ≤ (clamp lo hi x).toNat ∧ (clamp lo hi x).toNat ≤ hi := by
  obtain ⟨lower, upper⟩ := clamp_mem (lo := lo) (hi := hi) (by omega) x
  omega

/-! ### The settings -/

@[simp] theorem writeSetting_settings (k v : Nat) (s : State) : (writeSetting k v s).settings = storeSetting s.settings k v := by
  unfold writeSetting
  dsimp only
  split <;> simp

/-- A setting stored as a SET clamps it keeps the table in range. -/
theorem settingsHeld_storeSetting {t : Settings} (h : SettingsHeld t) {k : Nat} (hk : k < 14) (v : Int) :
    SettingsHeld (storeSetting t k (storedValue .setting k v).toNat) := by
  have stored := fun lo hi : Nat => clamp_toNat lo hi (x := v)
  simp only [storedValue, cellRange]
  unfold settingRange storeSetting
  split
  · exact { h with headCount := stored 1 24 (by decide) }
  · exact { h with wedges := stored 64 512 (by decide) }
  · exact { h with windowCode := (stored 0 3 (by decide)).2 }
  · exact { h with lossLimit := stored 1 15 (by decide) }
  · exact { h with idleTime := stored 1 255 (by decide) }
  · exact { h with switchSettle := (stored 0 15 (by decide)).2 }
  · exact { h with learnWindow := stored 1 8191 (by decide) }
  · exact { h with threshold := stored 1 8191 (by decide) }
  · exact { h with tripCount := stored 1 16 (by decide) }
  · exact { h with releaseCount := stored 1 16 (by decide) }
  · exact { h with triggerMode := (stored 0 3 (by decide)).2 }
  · exact { h with confirmThreshold := stored 1 15 (by decide) }
  · exact { h with ageLimit := (stored 0 255 (by decide)).2 }
  · exact { h with reportLimit := (stored 0 32 (by decide)).2 }
  · next h₁ h₂ h₃ h₄ h₅ h₆ h₇ h₈ h₉ h₁₀ h₁₁ h₁₂ h₁₃ h₁₄ => omega

theorem settingsHeld_reset : SettingsHeld {} := by constructor <;> decide

/-- Writing a cell keeps the settings in range. -/
theorem settingsHeld_writeCell {o : Obj} {k : Nat} (v : Int) {s : State} (writable : readOnlyCell o k = false)
    (h : SettingsHeld s.settings) : SettingsHeld (writeCell o k (storedValue o k v) s).settings := by
  cases o with
  | setting =>
    have small : k < 14 := by simpa [readOnlyCell] using writable
    simpa [writeCell] using settingsHeld_storeSetting h small v
  | headrec | lintab | runout | defect | planstep | state | counter | alert => exact h

theorem settingsHeld_managed {code : Nat} {m : Mgmt} {s t : State} (h : SettingsHeld s.settings)
    (action : Managed code m s t) : SettingsHeld t.settings := by
  cases action with
  | written o _ _ accepted =>
    exact written_keeps (P := fun s => SettingsHeld s.settings) accepted
      (fun _ v _ writable _ _ => settingsHeld_writeCell v writable) h
  | restarted => exact h
  | _ => simpa using h

/-- Every effect keeps the settings in range. -/
theorem settingsHeld_effect {c : Instr} {s t : State} (h : SettingsHeld s.settings) (effect : Effect c s t) :
    SettingsHeld t.settings := by
  cases effect with
  | powerOn => exact settingsHeld_reset
  | request code object r =>
    simpa using settingsHeld_managed h (actionOf_managed code (readRequest code object r) s)
  | _ => simpa using h

end Sys2Proof.Ranges
end

section
/-! PROOFS. The defect table: what each operation makes of it (R94 to R106), and that every command keeps it within its slots with
one entry for each head and wedge. -/

namespace Sys2Proof.DefectTable

set_option Elab.async false

open Sys2Proof.Machine Sys2Proof.Safety Sys2Proof.Commands Sys2Proof.Actions Sys2Proof.Traffic Sys2Proof.Ranges

/-! ### The table after each operation -/

theorem hitExisting_defects (slot : Nat) (e : DefectEntry) (s : State) :
    (hitExisting slot e s).defects = Table.put s.defects slot (hitEntry s.settings.confirmThreshold e) := by
  unfold hitExisting
  dsimp only
  split <;> simp

/-- The entry a hit creates (R97). -/
def freshEntry (threshold h w : Nat) : DefectEntry :=
  { head := h, wedge := w, state := if threshold ≤ 1 then .confirmed else .suspect, hits := 1, quiet := 0, mark := true }

theorem createByHit_defects (slot h w : Nat) (s : State) :
    (createByHit slot h w s).defects = Table.put s.defects slot (freshEntry s.settings.confirmThreshold h w) := by
  unfold createByHit freshEntry
  dsimp only
  split <;> simp

theorem evict_defects (v : Nat × DefectEntry) (s : State) : (evict v s).defects = Table.drop s.defects v.1 := by
  simp [evict]

theorem foldl_notice_defects (l : Table DefectEntry) (s : State) :
    (l.foldl (fun s c => offerDefectNotice (defectNotice .aged c.1 c.2) s) s).defects = s.defects := by
  induction l generalizing s with
  | nil => rfl
  | cons c l ih => rw [List.foldl_cons, ih]; simp

theorem ageDefects_defects (h : Nat) (s : State) :
    (ageDefects h s).defects = agedTable h s.settings.ageLimit s.defects := foldl_notice_defects _ _

theorem clockStage_defects (arrival h w : Nat) (index : Bool) (s : State) :
    (clockStage arrival h w index s).1.defects =
      if (clockStage arrival h w index s).2.event then agedTable h s.settings.ageLimit s.defects else s.defects := by
  unfold clockStage
  dsimp only
  split <;> simp [revolutionEvent, ageDefects_defects]

theorem heldStage_defects (f : WedgeRead) (fault : Bool) (s : State) :
    (heldStage f fault s).defects =
      if fault && (headRec s f.head).defectLearn then (recordHit f.head f.wedge (bump .heldFrames s)).defects
      else s.defects := by
  unfold heldStage
  dsimp only
  split <;> simp

/-! ### Within the slots, one entry for each head and wedge -/

/-- The clauses of the invariant on the table itself. -/
structure TableHeld (t : Table DefectEntry) : Prop where
  form : Table.wf 256 t = true
  entries : ∀ c ∈ t, EntryHeld c.2
  unique : t.Pairwise fun c d => ¬(c.2.head = d.2.head ∧ c.2.wedge = d.2.wedge)

theorem defectsHeld_iff {s : State} : DefectsHeld s ↔ SettingsHeld s.settings ∧ TableHeld s.defects :=
  ⟨fun h => ⟨h.settings, h.form, h.entries, h.unique⟩, fun ⟨h, t⟩ => ⟨h, t.form, t.entries, t.unique⟩⟩

/-- The indices of a rising table from `lo` on are at least `lo`. -/
theorem le_of_rising {α : Type} {t : Table α} : ∀ {lo : Nat}, Table.rising lo t = true → ∀ c ∈ t, lo ≤ c.1 := by
  induction t with
  | nil => intro _ _ c hc; cases hc
  | cons c t ih =>
    obtain ⟨j, u⟩ := c
    intro lo rising c hc
    simp only [Table.rising, Bool.and_eq_true, decide_eq_true_eq] at rising
    rcases List.mem_cons.mp hc with rfl | hc
    · exact rising.1
    · have := ih rising.2 c hc
      omega

/-- A `put` keeps a relation between any two listed cells, if the new cell has it to each cell of another index. -/
theorem pairwise_put {α : Type} {R : Nat × α → Nat × α → Prop} (symm : ∀ c d, R c d → R d c) {k : Nat} {v : α} {t : Table α}
    (pairs : t.Pairwise R) (new : ∀ c ∈ t, c.1 ≠ k → R (k, v) c) {lo : Nat} (rising : Table.rising lo t = true) :
    (Table.put t k v).Pairwise R := by
  induction t generalizing lo with
  | nil => exact List.pairwise_singleton R _
  | cons c t ih =>
    obtain ⟨j, u⟩ := c
    obtain ⟨head, tail⟩ := List.pairwise_cons.mp pairs
    simp only [Table.rising, Bool.and_eq_true, decide_eq_true_eq] at rising
    have above : ∀ c ∈ t, j + 1 ≤ c.1 := le_of_rising rising.2
    unfold Table.put
    split_ifs with below same
    · refine List.pairwise_cons.mpr ⟨fun c hc => new c hc ?_, pairs⟩
      rcases List.mem_cons.mp hc with rfl | hc
      · exact Nat.ne_of_gt below
      · have := above c hc
        omega
    · refine List.pairwise_cons.mpr ⟨fun c hc => new c (List.mem_cons_of_mem _ hc) ?_, tail⟩
      have := above c hc
      omega
    · refine List.pairwise_cons.mpr ⟨fun c hc => ?_, ih tail (fun c hc => new c (List.mem_cons_of_mem _ hc)) rising.2⟩
      rcases Laws.mem_put hc with rfl | hc
      · exact symm _ _ (new _ List.mem_cons_self (by omega))
      · exact head c hc

/-- Cells kept at their indices keep the table's form. -/
theorem rising_filterMap {α : Type} {g : Nat × α → Option (Nat × α)} (index : ∀ c d, g c = some d → d.1 = c.1) {t : Table α} :
    ∀ {lo : Nat}, Table.rising lo t = true → Table.rising lo (t.filterMap g) = true := by
  induction t with
  | nil => intro _ h; exact h
  | cons c t ih =>
    obtain ⟨j, u⟩ := c
    intro lo rising
    simp only [Table.rising, Bool.and_eq_true, decide_eq_true_eq] at rising
    rcases kept : g (j, u) with _ | ⟨i, v⟩
    · rw [List.filterMap_cons_none kept]
      exact Laws.rising_mono (by omega) _ (ih rising.2)
    · rw [List.filterMap_cons_some kept]
      have same : i = j := index _ _ kept
      simp only [Table.rising, Bool.and_eq_true, decide_eq_true_eq, same]
      exact ⟨rising.1, ih rising.2⟩

namespace TableHeld
variable {t : Table DefectEntry}

/-- Entries taken out, or changed under their head and wedge. -/
theorem filterMap (h : TableHeld t) {g : Nat × DefectEntry → Option (Nat × DefectEntry)}
    (pair : ∀ c d, g c = some d → d.1 = c.1 ∧ d.2.head = c.2.head ∧ d.2.wedge = c.2.wedge)
    (entry : ∀ c d, g c = some d → EntryHeld c.2 → EntryHeld d.2) : TableHeld (t.filterMap g) := by
  refine ⟨?_, fun d hd => ?_, ?_⟩
  · have form := h.form
    simp only [Table.wf, Bool.and_eq_true, List.all_eq_true, decide_eq_true_eq] at form ⊢
    refine ⟨rising_filterMap (fun c d e => (pair c d e).1) form.1, fun d hd => ?_⟩
    obtain ⟨c, hc, e⟩ := List.mem_filterMap.mp hd
    rw [(pair c d e).1]
    exact form.2 c hc
  · obtain ⟨c, hc, e⟩ := List.mem_filterMap.mp hd
    exact entry c d e (h.entries c hc)
  · refine h.unique.filterMap g fun c c' other d e d' e' => ?_
    obtain ⟨-, head, wedge⟩ := pair c d e
    obtain ⟨-, head', wedge'⟩ := pair c' d' e'
    rwa [head, wedge, head', wedge']

theorem filter (h : TableHeld t) (p : Nat × DefectEntry → Bool) : TableHeld (t.filter p) :=
  ⟨Laws.wf_filter p h.form, fun c hc => h.entries c (List.mem_of_mem_filter hc), h.unique.filter p⟩

theorem put (h : TableHeld t) {k : Nat} {e : DefectEntry} (slot : k < 256) (entry : EntryHeld e)
    (new : ∀ c ∈ t, c.1 ≠ k → ¬(c.2.head = e.head ∧ c.2.wedge = e.wedge)) : TableHeld (Table.put t k e) := by
  have rising : Table.rising 0 t = true := by
    have form := h.form
    simp only [Table.wf, Bool.and_eq_true] at form
    exact form.1
  exact ⟨Laws.wf_put e h.form slot, Laws.forall_put h.entries entry,
    pairwise_put (fun _ _ other same => other ⟨same.1.symm, same.2.symm⟩) h.unique
      (fun c hc index same => new c hc index ⟨same.1.symm, same.2.symm⟩) rising⟩

end TableHeld

/-! ### Lookups -/

theorem findDefect_some {t : Table DefectEntry} {h w k : Nat} {e : DefectEntry} (found : findDefect t h w = some (k, e)) :
    (k, e) ∈ t ∧ e.head = h ∧ e.wedge = w := by
  have names := List.find?_some found
  simp only [Bool.and_eq_true, beq_iff_eq] at names
  exact ⟨List.mem_of_find?_eq_some found, names⟩

theorem findDefect_none {t : Table DefectEntry} {h w : Nat} :
    findDefect t h w = none ↔ ∀ c ∈ t, ¬(c.2.head = h ∧ c.2.wedge = w) := by
  simp [findDefect]

/-- Any other cell names another pair than an entry of a table held. -/
theorem TableHeld.other {t : Table DefectEntry} (h : TableHeld t) {k : Nat} {e : DefectEntry} (mem : (k, e) ∈ t) :
    ∀ c ∈ t, c.1 ≠ k → ¬(c.2.head = e.head ∧ c.2.wedge = e.wedge) := by
  intro c hc index same
  have symm : Std.Symm fun c d : Nat × DefectEntry => ¬(c.2.head = d.2.head ∧ c.2.wedge = d.2.wedge) :=
    ⟨fun _ _ other same => other ⟨same.1.symm, same.2.symm⟩⟩
  exact h.unique.forall hc mem (fun e => index (by rw [e])) same

theorem TableHeld.slot_lt {t : Table DefectEntry} (h : TableHeld t) {c : Nat × DefectEntry} (mem : c ∈ t) : c.1 < 256 := by
  have form := h.form
  simp only [Table.wf, Bool.and_eq_true, List.all_eq_true, decide_eq_true_eq] at form
  exact form.2 c mem

/-! ### The operations keep the table -/

section
variable {s : State} {h w : Nat}

theorem entryHeld_hit {e : DefectEntry} (held : EntryHeld e) (threshold : Nat) : EntryHeld (hitEntry threshold e) :=
  ⟨held.head, held.wedge, Nat.min_le_right _ _, Nat.zero_le _⟩

theorem entryHeld_fresh (threshold : Nat) (hh : h ≤ 23) (hw : w ≤ 511) : EntryHeld (freshEntry threshold h w) :=
  ⟨hh, hw, by simp [freshEntry], by simp [freshEntry]⟩

theorem entryHeld_aged {e : DefectEntry} (held : EntryHeld e) : EntryHeld (agedEntry e) := by
  unfold agedEntry
  split
  · exact ⟨held.head, held.wedge, held.hits, Nat.min_le_right _ _⟩
  · exact ⟨held.head, held.wedge, held.hits, held.quiet⟩

theorem agedEntry_pair (e : DefectEntry) : (agedEntry e).head = e.head ∧ (agedEntry e).wedge = e.wedge := by
  unfold agedEntry
  split <;> exact ⟨rfl, rfl⟩

theorem tableHeld_aged (held : TableHeld s.defects) (limit : Nat) : TableHeld (agedTable h limit s.defects) := by
  refine held.filterMap (fun c d e => ?_) (fun c d e entry => ?_)
  · split_ifs at e <;> cases e
    · exact ⟨rfl, agedEntry_pair c.2⟩
    · exact ⟨rfl, rfl, rfl⟩
  · split_ifs at e <;> cases e
    · exact entryHeld_aged entry
    · exact entry

theorem tableHeld_restart {t : Table DefectEntry} (held : TableHeld t) : TableHeld (restartDefects t) := by
  rw [restartDefects, ← List.filterMap_eq_map]
  refine (held.filter _).filterMap (fun c d e => ?_) (fun c d e entry => ?_)
  · cases e
    exact ⟨rfl, rfl, rfl⟩
  · cases e
    exact ⟨entry.head, entry.wedge, entry.hits, entry.quiet⟩

/-- A new pair in a slot that no cell, or a cell taken out, stood in. -/
theorem tableHeld_new {t : Table DefectEntry} (held : TableHeld t) {k : Nat} {e : DefectEntry} (slot : k < 256)
    (entry : EntryHeld e) (new : findDefect t e.head e.wedge = none) (p : Nat × DefectEntry → Bool) :
    TableHeld (Table.put (t.filter p) k e) :=
  (held.filter p).put slot entry fun c hc _ => findDefect_none.mp new c (List.mem_of_mem_filter hc)

theorem tableHeld_recordHit (held : TableHeld s.defects) (hh : h ≤ 23) (hw : w ≤ 511) :
    TableHeld (recordHit h w s).defects := by
  rcases Laws.recordHit_cases h w s with ⟨k, e, found, heq⟩ | ⟨new, ⟨k, empty, heq⟩ | ⟨-, ⟨v, victim, heq⟩ | ⟨-, heq⟩⟩⟩ <;>
    rw [heq]
  · obtain ⟨mem, -, -⟩ := findDefect_some found
    have other := held.other mem
    rw [hitExisting_defects]
    exact held.put (held.slot_lt mem) (entryHeld_hit (held.entries _ mem) _) other
  · rw [createByHit_defects]
    exact held.put (Laws.lowestEmptySlot_spec _ _ empty).1 (entryHeld_fresh _ hh hw) fun c hc _ => findDefect_none.mp new c hc
  · obtain ⟨mem, -⟩ := Laws.evictionVictim_mem _ _ victim
    rw [createByHit_defects, evict_defects]
    exact tableHeld_new held (held.slot_lt mem) (entryHeld_fresh _ hh hw) new _
  · exact held

theorem tableHeld_addDefect (held : TableHeld s.defects) (hh : h ≤ 23) (hw : w ≤ 511) :
    TableHeld (addDefect h w s).1.defects := by
  have entry : EntryHeld ⟨h, w, .static, 0, 0, false⟩ := ⟨hh, hw, by simp, by simp⟩
  unfold addDefect
  split
  · next k e found =>
    obtain ⟨mem, -, -⟩ := findDefect_some found
    have old := held.entries _ mem
    have other := held.other mem
    exact held.put (held.slot_lt mem) ⟨old.head, old.wedge, old.hits, old.quiet⟩ other
  · next new =>
    split
    · next k empty =>
      exact held.put (Laws.lowestEmptySlot_spec _ _ empty).1 entry fun c hc _ => findDefect_none.mp new c hc
    · split
      · next v victim =>
        obtain ⟨mem, -⟩ := Laws.evictionVictim_mem _ _ victim
        simp only [placeStatic, Laws.setDefects_defects, evict_defects]
        exact tableHeld_new held (held.slot_lt mem) entry new _
      · exact held
end

/-! ### WEDGE frames -/

section
variable {s : State} {f : WedgeRead}

theorem tableHeld_clockStage (held : TableHeld s.defects) (arrival h w : Nat) (index : Bool) :
    TableHeld (clockStage arrival h w index s).1.defects := by
  rw [clockStage_defects]
  split
  · exact tableHeld_aged held _
  · exact held

theorem eligible_iff {h w : Nat} : eligible s h w = true ↔
    h < s.settings.headCount ∧ (headRec s h).enabled = true ∧ w < s.settings.wedges := by
  simp [eligible, and_assoc]

theorem tableHeld_handleWedge (held : TableHeld s.defects) (hh : f.head ≤ 23) (hw : f.wedge ≤ 511) (arrival : Nat)
    (bytes : Frame) : TableHeld (handleWedge arrival f bytes s).defects := by
  have ruled : TableHeld (ruled arrival f s).1.defects := tableHeld_clockStage (by simpa [contextFound] using held) _ _ _ _
  have learned : TableHeld (learned arrival f s).defects := by simpa [learned, planned, applied] using ruled
  have classed : TableHeld (classed arrival f s).1.defects := by
    unfold classed frameStage
    dsimp only
    split
    · simp only [Laws.settleWatch_frame, heldStage_defects]
      split
      · exact tableHeld_recordHit (by simpa using learned) hh hw
      · exact learned
    · simpa using learned
  rw [handleWedge_eq]
  simpa using classed

theorem tableHeld_takeWedge (settings : SettingsHeld s.settings) (held : TableHeld s.defects) (arrival : Nat)
    (bytes : Frame) : TableHeld (takeWedge arrival f bytes s).defects := by
  have closed : TableHeld (closePast arrival Config.maxMisses s).defects := by simpa using held
  have headCount := settings.headCount.2
  have wedges := settings.wedges.2
  unfold takeWedge
  dsimp only
  split
  · next eligible =>
    obtain ⟨head, -, wedge⟩ := eligible_iff.mp eligible
    simp only [Laws.closePast_frame] at head wedge
    exact tableHeld_handleWedge closed (by omega) (by omega) arrival bytes
  · unfold passWedge
    dsimp only
    split
    · split <;> simpa using closed
    · split <;> simpa using tableHeld_clockStage (by simpa using closed) arrival f.head f.wedge f.index
end

theorem tableHeld_managed {code : Nat} {m : Mgmt} {s t : State} (held : TableHeld s.defects) (action : Managed code m s t) :
    TableHeld t.defects := by
  cases action with
  | written => simpa [(Writers.spared_writeCells _ _ _ s).defects] using held
  | added h w _ hh hw => exact tableHeld_addDefect held hh hw
  | removed | flushed => exact held.filter _
  | restarted => exact tableHeld_restart held
  | _ => simpa using held

/-- Every effect keeps the defect table. -/
theorem defectsHeld_effect (c : Instr) (s t : State) (held : DefectsHeld s) (effect : Effect c s t) : DefectsHeld t := by
  rw [defectsHeld_iff] at held ⊢
  obtain ⟨settings, table⟩ := held
  refine ⟨settingsHeld_effect settings effect, ?_⟩
  cases effect with
  | powerOn => exact ⟨rfl, by simp [powerOn, State.reset], by simp [powerOn, State.reset]⟩
  | wedge arrival bytes => exact tableHeld_takeWedge settings table arrival bytes
  | request code object r => simpa using tableHeld_managed table (actionOf_managed code (readRequest code object r) s)
  | _ => simpa using table

/-- Settles O56. -/
theorem defectsStayUnique : Obligations.DefectsStayUnique :=
  step_keeps (fun _ _ h => ⟨h.settings, h.form, h.entries, h.unique⟩) defectsHeld_effect

end Sys2Proof.DefectTable
end

section
/-! PROOFS. The head contexts: what each operation writes into them (R34, R48 to R58, R111), and that every command keeps them in
range. -/

namespace Sys2Proof.Contexts

set_option Elab.async false

open Sys2Proof.Machine Sys2Proof.Safety Sys2Proof.Commands Sys2Proof.Actions Sys2Proof.Traffic Sys2Proof.Ranges
  Sys2Proof.DefectTable

/-! ### The contexts after each operation -/

@[simp] theorem headSwitch_activeHead (h : Nat) (s : State) : (headSwitch h s).activeHead = some h := by
  unfold headSwitch
  split
  · assumption
  · dsimp only
    split <;> simp

theorem headSwitch_contexts (h : Nat) (s : State) :
    (headSwitch h s).contexts =
      if s.activeHead = some h then s.contexts
      else Table.set {} s.contexts h { headContext s h with settle := s.settings.switchSettle } := by
  unfold headSwitch
  split
  · rfl
  · dsimp only
    split <;> simp

theorem contextStage_activeHead (h : Nat) (s : State) : (contextStage h s).1.activeHead = some h := by
  simp [contextStage]

theorem readHoldFrame_contexts (f : HoldRead) (s : State) :
    (readHoldFrame f s).contexts =
      if f.head < s.settings.headCount then
        Table.set {} s.contexts f.head (holdContext s.settings.switchSettle f (headContext s f.head))
      else s.contexts := by
  unfold readHoldFrame
  dsimp only
  split_ifs <;> simp

theorem storeDemodulated_contexts (ec : Int) (f : WedgeRead) (s : State) :
    (storeDemodulated ec f s).contexts =
      Table.set {} s.contexts f.head { headContext s f.head with held := clampOutput ec, lastTrack := f.track } := by
  unfold storeDemodulated
  dsimp only
  split <;> simp

/-- The context a counted frame leaves (R111). -/
def countedContext (set : Settings) (eOut : Int) (c : HeadContext) : HeadContext :=
  { c with
    monitor := (monitorStep set (decide (set.threshold < eOut.natAbs)) c).state
    run := (monitorStep set (decide (set.threshold < eOut.natAbs)) c).run }

theorem monitorCount_contexts (h w : Nat) (eOut : Int) (s : State) :
    (monitorCount h w eOut s).1.contexts =
      Table.set {} s.contexts h (countedContext s.settings eOut (headContext s h)) := by
  unfold monitorCount countedContext
  dsimp only
  split_ifs <;> simp

theorem demodulatedStage_contexts (f : WedgeRead) (k : FrameFacts) (ec : Int) (s : State) :
    (demodulatedStage f k ec s).1.contexts =
      if k.props.seeking then (storeDemodulated ec f s).contexts
      else (monitorCount f.head f.wedge (clampOutput ec) (storeDemodulated ec f s)).1.contexts := by
  unfold demodulatedStage
  split <;> simp

theorem frameStage_contexts (f : WedgeRead) (k : FrameFacts) (s : State) :
    (frameStage f k s).1.contexts =
      match classify s k.offset f with
      | .held => s.contexts
      | .demodulated ec => (demodulatedStage f k ec s).1.contexts := by
  unfold frameStage
  rcases h : classify s k.offset f with _ | ec <;> simp

/-! ### Contexts in range -/

/-- The clauses of the invariant on the contexts themselves. -/
structure StoreHeld (t : Table HeadContext) : Prop where
  form : Table.canonical {} 24 t = true
  contexts : ∀ c ∈ t, ContextHeld c.2

theorem contextsHeld_iff {s : State} : ContextsHeld s ↔
    SettingsHeld s.settings ∧ StoreHeld s.contexts ∧ ∀ h, s.activeHead = some h → h ≤ 23 :=
  ⟨fun h => ⟨h.settings, ⟨h.form, h.contexts⟩, h.active⟩, fun ⟨h, t, a⟩ => ⟨h, t.form, t.contexts, a⟩⟩

theorem contextHeld_default : ContextHeld {} := by constructor <;> simp

theorem mem_of_find? {α : Type} {t : Table α} {k : Nat} {v : α} (h : Table.find? t k = some v) : (k, v) ∈ t := by
  induction t with
  | nil => cases h
  | cons c t ih =>
    obtain ⟨j, u⟩ := c
    rw [Laws.find?_cons] at h
    split at h
    · next e => cases h; subst e; exact List.mem_cons_self
    · exact List.mem_cons_of_mem _ (ih h)

/-- A property of every listed cell, and of what an unlisted one reads as, is one of every cell read. -/
theorem get_of_forall {α : Type} {P : α → Prop} {d : α} {t : Table α} (listed : ∀ c ∈ t, P c.2) (unlisted : P d) (k : Nat) :
    P (Table.get d t k) := by
  unfold Table.get
  rcases found : Table.find? t k with _ | v
  · exact unlisted
  · exact listed _ (mem_of_find? found)

theorem StoreHeld.get {s : State} (h : StoreHeld s.contexts) (k : Nat) : ContextHeld (headContext s k) :=
  get_of_forall h.contexts contextHeld_default k

theorem StoreHeld.set {t : Table HeadContext} (h : StoreHeld t) {k : Nat} {c : HeadContext} (hk : k < 24)
    (hc : ContextHeld c) : StoreHeld (Table.set {} t k c) :=
  ⟨Laws.canonical_set c h.form hk, Laws.forall_set h.contexts hc⟩

theorem contextHeld_withSettle {c : HeadContext} (h : ContextHeld c) {n : Nat} (hn : n ≤ 15) :
    ContextHeld { c with settle := n } := { h with settle := hn }

theorem contextHeld_hold {c : HeadContext} (h : ContextHeld c) {n : Nat} (hn : n ≤ 15) (f : HoldFrame) :
    ContextHeld (holdContext n (readHold f) c) := by
  have track : (readHold f).track < 2 ^ 20 := Nat.mod_lt _ (by decide)
  have offset : -512 ≤ (readHold f).offset ∧ (readHold f).offset ≤ 511 := clamp_mem (by decide) _
  unfold holdContext
  dsimp only
  split
  · exact { h with targetTrack := track, targetOffset := offset }
  · refine { h with targetTrack := track, targetOffset := offset, settle := ?_ }
    dsimp only
    split
    · exact hn
    · exact h.settle

theorem contextHeld_demodulated {c : HeadContext} (h : ContextHeld c) (ec : Int) (f : WedgeFrame) :
    ContextHeld { c with held := clampOutput ec, lastTrack := (readWedge f).track } :=
  { h with held := clamp_mem (by decide) _, lastTrack := Nat.mod_lt _ (by decide) }

/-- The run count stays below the count that ends the run (R111). -/
theorem contextHeld_counted {set : Settings} (settings : SettingsHeld set) {c : HeadContext} (h : ContextHeld c) (eOut : Int) :
    ContextHeld (countedContext set eOut c) := by
  have trips := settings.tripCount.2
  have releases := settings.releaseCount.2
  unfold countedContext
  generalize decide (set.threshold < eOut.natAbs) = beyond
  suffices counted : (monitorStep set beyond c).run ≤ 15 ∧ ((monitorStep set beyond c).state = .clear → (monitorStep set beyond c).run = 0) ∧
      ((monitorStep set beyond c).state = .pending → 1 ≤ (monitorStep set beyond c).run) by
    exact { h with run := counted.1, clearRun := counted.2.1, pendingRun := counted.2.2 }
  unfold monitorStep
  split <;> (try split) <;> simp <;> omega

/-! ### Frames keep the contexts -/

section
variable {s : State}

theorem storeHeld_contextStage (settings : SettingsHeld s.settings) (held : StoreHeld s.contexts) {h : Nat} (hh : h < 24) :
    StoreHeld (contextStage h s).1.contexts := by
  have switched : StoreHeld (headSwitch h s).contexts := by
    rw [headSwitch_contexts]
    split
    · exact held
    · exact held.set hh (contextHeld_withSettle (held.get h) settings.switchSettle)
  have settle := (switched.get h).settle
  exact switched.set hh (contextHeld_withSettle (switched.get h) (by omega))

theorem storeHeld_demodulatedStage (settings : SettingsHeld s.settings) (held : StoreHeld s.contexts) (f : WedgeFrame)
    (hh : (readWedge f).head < 24) (k : FrameFacts) (ec : Int) :
    StoreHeld (demodulatedStage (readWedge f) k ec s).1.contexts := by
  have stored : StoreHeld (storeDemodulated ec (readWedge f) s).contexts := by
    rw [storeDemodulated_contexts]
    exact held.set hh (contextHeld_demodulated (held.get _) ec f)
  rw [demodulatedStage_contexts]
  split
  · exact stored
  · rw [monitorCount_contexts]
    exact stored.set hh (contextHeld_counted (by simpa using settings) (stored.get _) _)

theorem storeHeld_handleWedge (settings : SettingsHeld s.settings) (held : StoreHeld s.contexts) (f : WedgeFrame)
    (hh : (readWedge f).head < 24) (arrival : Nat) (bytes : Frame) :
    StoreHeld (handleWedge arrival (readWedge f) bytes s).contexts := by
  have learned : StoreHeld (learned arrival (readWedge f) s).contexts := by
    simpa [learned, planned, applied, ruled, contextFound] using storeHeld_contextStage settings held hh
  have same : (Traffic.learned arrival (readWedge f) s).settings = s.settings := (learned_carried arrival (readWedge f) s).settings
  have classed : StoreHeld (classed arrival (readWedge f) s).1.contexts := by
    unfold classed
    rw [frameStage_contexts]
    split
    · exact learned
    · exact storeHeld_demodulatedStage (by rw [same]; exact settings) learned f hh _ _
  rw [handleWedge_eq]
  simp only [Laws.forward_frame]
  exact classed.set hh { classed.get _ with }

theorem contexts_takeWedge (held : ContextsHeld s) (arrival : Nat) (f : WedgeFrame) (bytes : Frame) :
    ContextsHeld (takeWedge arrival (readWedge f) bytes s) := by
  rw [contextsHeld_iff] at held ⊢
  obtain ⟨settings, held, active⟩ := held
  refine ⟨by simpa using settings, ?_⟩
  have headCount := settings.headCount.2
  unfold takeWedge
  dsimp only
  split
  · next eligible =>
    obtain ⟨head, -, -⟩ := eligible_iff.mp eligible
    simp only [Laws.closePast_frame] at head
    refine ⟨storeHeld_handleWedge (by simpa using settings) (by simpa using held) f (by omega) arrival bytes, fun h hh => ?_⟩
    simp only [handleWedge_eq, Laws.forward_frame, Laws.passTargetChange_frame, classed, Laws.frameStage_frame, learned,
      Laws.engineStage_frame, planned, Laws.planStage_frame, applied, Laws.applyStage_frame, ruled, Laws.clockStage_frame,
      contextFound, contextStage_activeHead, Option.some.injEq] at hh
    omega
  · exact ⟨by simpa using held, by simpa using active⟩

theorem contexts_hold (held : ContextsHeld s) (f : HoldFrame) (bytes : Frame) :
    ContextsHeld (takeHold (readHold f) bytes s) := by
  rw [contextsHeld_iff] at held ⊢
  obtain ⟨settings, held, active⟩ := held
  refine ⟨by simpa using settings, ?_, by simpa using active⟩
  have headCount := settings.headCount.2
  have same : (takeHold (readHold f) bytes s).contexts = (readHoldFrame (readHold f) s).contexts := by simp [takeHold]
  rw [same, readHoldFrame_contexts]
  split
  · exact held.set (by omega) (contextHeld_hold (held.get _) settings.switchSettle f)
  · exact held
end

/-- Every effect keeps the contexts. -/
theorem contextsHeld_effect (c : Instr) (s t : State) (held : ContextsHeld s) (effect : Effect c s t) : ContextsHeld t := by
  have settings := settingsHeld_effect held.settings effect
  have empty : StoreHeld [] := ⟨rfl, by simp⟩
  cases effect with
  | wedge arrival bytes => exact contexts_takeWedge held arrival _ bytes
  | hold bytes => exact contexts_hold held _ bytes
  | powerOn => exact contextsHeld_iff.mpr ⟨settings, empty, by simp [powerOn, State.reset]⟩
  | request code object r =>
    refine contextsHeld_iff.mpr ⟨settings, ?_⟩
    obtain ⟨-, held, active⟩ := contextsHeld_iff.mp held
    simp only [Laws.answer_frame]
    have action := actionOf_managed code (readRequest code object r) s
    generalize (actionOf code (readRequest code object r) s).1 = u at action ⊢
    cases action with
    | written =>
      rw [(Writers.spared_writeCells _ _ _ s).contexts, (Writers.spared_writeCells _ _ _ s).activeHead]
      exact ⟨held, active⟩
    | restarted => exact ⟨empty, by simp [restartState]⟩
    | _ => simpa using ⟨held, active⟩
  | _ => simpa [contextsHeld_iff] using held

/-- Settles O54. -/
theorem contextsStayInRange : Obligations.ContextsStayInRange :=
  step_keeps (fun _ _ h => ⟨h.settings, h.form, h.contexts, h.active⟩) contextsHeld_effect

end Sys2Proof.Contexts
end

section
/-! PROOFS. The Wedge Clock: the clock after each operation (R59 to R71), and that every command keeps its law and the timers that
follow its state. -/

namespace Sys2Proof.ClockLaw

set_option Elab.async false

open Sys2Proof.Machine Sys2Proof.Safety Sys2Proof.Commands Sys2Proof.Actions Sys2Proof.Traffic Sys2Proof.Ranges

/-! ### The clock after each operation -/

/-- The clock that is lost (R70). -/
def lostClock (c : Clock) : Clock :=
  { c with state := .lost, expected := none, missed := [], missCount := 0, acquisition := none, idleTimer := none }

/-- The clock that is unlocked (R60). -/
def unlockedClock (c : Clock) : Clock :=
  { c with
    state := .unlocked, revLength := 0, period := 0, remainder := 0, expected := none, missed := [], missCount := 0
    acquisition := none, idleTimer := none }

/-- The clock that locks at the end of a good measurement (R62). -/
def lockedClock (set : Settings) (arrival : Nat) (a : Acquisition) (c : Clock) : Clock :=
  giveReference set 0 arrival
    { storeLength set.wedges (arrival - a.start) c with state := .locked, missCount := 0, missed := [], acquisition := none }

/-- The clock that goes on by the prediction of the wedge just missed (R64, R66). -/
def missedClock (set : Settings) (e : Expectation) (c : Clock) : Clock :=
  giveReference set e.wedge e.predicted
    { c with
      missCount := c.missCount + 1
      missed := c.missed ++ [e.wedge]
      state := if c.state = .locked then .coasting else c.state }

theorem loseClock_eq (cause : Nat) (s : State) : loseClock cause s =
    offerReport 1 (clockNotice 2 cause (lostClock s.clock)) (raise .clockLost (setClock (lostClock s.clock) (departure s))) := by
  simp [loseClock, lostClock]

theorem lockClock_eq (arrival : Nat) (a : Acquisition) (s : State) : lockClock arrival a s =
    offerReport 1 (clockNotice 1 0 (lockedClock s.settings arrival a s.clock))
      (raise .clockLocked (setRefreshTimer none (setClock (lockedClock s.settings arrival a s.clock) s))) := rfl

theorem unlockClock_eq (s : State) : unlockClock s = setClock (unlockedClock s.clock) (departure s) := by
  simp [unlockClock, unlockedClock]

@[simp] theorem loseClock_clock (cause : Nat) (s : State) : (loseClock cause s).clock = lostClock s.clock := by
  simp [loseClock, lostClock]

@[simp] theorem unlockClock_clock (s : State) : (unlockClock s).clock = unlockedClock s.clock := by
  simp [unlockClock, unlockedClock]

@[simp] theorem lockClock_clock (arrival : Nat) (a : Acquisition) (s : State) :
    (lockClock arrival a s).clock = lockedClock s.settings arrival a s.clock := by
  simp [lockClock, lockedClock]

theorem endMeasurement_clock (arrival w : Nat) (a : Acquisition) (s : State) :
    (endMeasurement arrival w a s).clock =
      if measurementGood s.settings.wedges arrival a then lockedClock s.settings arrival a s.clock
      else startMeasurement arrival w s.clock := by
  unfold endMeasurement
  split <;> simp

theorem declareMissed_none {s : State} (h : s.clock.expected = none) : declareMissed s = s := by
  simp [declareMissed, h]

/-- A missed wedge before it is known whether the loss limit is reached (R66). -/
def missedOnce (e : Expectation) (s : State) : State :=
  synthesize e.wedge (setClock (missedClock s.settings e s.clock) (bump .missedWedges s))

@[simp] theorem missedOnce_clock (e : Expectation) (s : State) :
    (missedOnce e s).clock = missedClock s.settings e s.clock := by
  simp [missedOnce]

theorem revolutionEvent_clock (h : Nat) (s : State) :
    (revolutionEvent h s).clock = { s.clock with stamp := s.clock.stamp + 1 } := by
  simp [revolutionEvent]

theorem declareMissed_some {s : State} {e : Expectation} (h : s.clock.expected = some e) :
    declareMissed s =
      if s.settings.lossLimit ≤ s.clock.missCount + 1 then loseClock 1 (missedOnce e s) else missedOnce e s := by
  unfold declareMissed
  rw [h]
  rfl

/-! ### Timers -/

/-- The clauses on the budget and its refresh timer, with the settings that bound them. -/
structure TimersHeld (s : State) : Prop where
  settings : SettingsHeld s.settings
  refresh : s.out.refreshTimer.isSome = !s.clock.state.running
  budget : ∀ n, s.out.budget = .left n → n ≤ 32

/-- What touches neither the timer nor the clock keeps them. -/
theorem TimersHeld.carried {s t : State} (h : TimersHeld s) {F : Footprint} (carried : Carried F s t)
    (running : t.clock.state.running = s.clock.state.running) (timer : F.timer = false := by rfl) : TimersHeld t :=
  ⟨by rw [carried.settings]; exact h.settings, by rw [carried.timer_eq timer, running]; exact h.refresh,
    carried.budget_le h.settings.reportLimit h.budget⟩

theorem departure_out (s : State) :
    (departure s).out = if s.clock.state.running then { s.out with refreshTimer := some 10 } else s.out := by
  unfold departure
  split <;> simp [Config.refreshMs]

/-- A departure leaves the refresh timer running, and a clock that stands still keeps it. -/
theorem TimersHeld.departed {s : State} (h : TimersHeld s) {c : Clock} (stopped : c.state.running = false) :
    TimersHeld (setClock c (departure s)) := by
  refine ⟨by simpa using h.settings, ?_, ?_⟩
  · have refresh := h.refresh
    simp only [Laws.setClock_out, departure_out, Laws.setClock_clock, stopped]
    split
    · rfl
    · next still => simpa [still] using refresh
  · simp only [Laws.setClock_out, departure_out]
    split <;> exact h.budget

/-- An alert and a report keep the timers. -/
theorem TimersHeld.announced {s : State} (h : TimersHeld s) (a : Alert) (kind : Nat) (record : List Byte) :
    TimersHeld (offerReport kind record (raise a s)) :=
  (h.carried (.raised (F := { alerts := [a] }) s (List.mem_singleton_self a)) rfl).carried (offerReport_carried _ _ _) (by simp)

theorem TimersHeld.lost {s : State} (h : TimersHeld s) (cause : Nat) : TimersHeld (loseClock cause s) := by
  rw [loseClock_eq]
  have departed : TimersHeld (setClock (lostClock s.clock) (departure s)) := h.departed rfl
  exact departed.announced _ _ _

theorem TimersHeld.locked {s : State} (h : TimersHeld s) (arrival : Nat) (a : Acquisition) :
    TimersHeld (lockClock arrival a s) := by
  rw [lockClock_eq]
  have stopped : TimersHeld (setRefreshTimer none (setClock (lockedClock s.settings arrival a s.clock) s)) :=
    ⟨h.settings, rfl, h.budget⟩
  exact stopped.announced _ _ _

theorem TimersHeld.unlocked {s : State} (h : TimersHeld s) : TimersHeld (unlockClock s) := by
  rw [unlockClock_eq]
  exact h.departed rfl

/-! ### The registers of the clock -/

/-- The clauses on the clock alone. -/
structure RegistersHeld (wedges : Nat) (c : Clock) : Prop where
  running : c.state.running = true → RunningClock wedges c
  stopped : c.state.running = false → c.expected = none ∧ c.missed = [] ∧ c.missCount = 0
  acquisition : c.acquisition.isSome = true → c.state = .acquiring
  frames : ∀ a, c.acquisition = some a → 1 ≤ a.frames ∧ a.frames ≤ 513
  idle : c.idleTimer.isSome = true ↔ c.state ≠ .unlocked ∧ c.state ≠ .lost

theorem clockHeld_iff {s : State} : ClockHeld s ↔ TimersHeld s ∧ RegistersHeld s.settings.wedges s.clock :=
  ⟨fun h => ⟨⟨h.settings, h.refresh, h.budget⟩, h.running, h.stopped, h.acquisition, h.frames, h.idle⟩,
    fun ⟨t, r⟩ => ⟨t.settings, r.running, r.stopped, r.acquisition, r.frames, r.idle, t.refresh, t.budget⟩⟩

/-- The clauses of a running clock that its next reference does not touch. -/
structure Rolling (wedges : Nat) (c : Clock) : Prop where
  period : 200 ≤ c.period ∧ c.period ≤ 65535
  law : c.period * wedges + c.remainder = c.revLength
  remainder : c.remainder < wedges
  misses : c.missed.length = c.missCount
  missCount : c.missCount ≤ 14
  acquisition : c.acquisition = none

theorem RunningClock.rolling {wedges : Nat} {c : Clock} (h : RunningClock wedges c) : Rolling wedges c :=
  ⟨h.period, h.law, h.remainder, h.misses, h.missCount, h.acquisition⟩

/-- A window half-width is at most a quarter of the period (R64). -/
theorem windowHalfWidth_le (code period : Nat) : 4 * windowHalfWidth code period ≤ period := by
  have quarter : windowHalfWidth code period ≤ period / 4 :=
    Nat.div_le_div_left (by rw [pow_add]; exact Nat.le_mul_of_pos_left 4 (by positivity)) (by decide)
  omega

theorem Rolling.referenced {set : Settings} {c : Clock} (h : Rolling set.wedges c) {w : Nat} (time : Nat)
    (index : w = 0 ∨ c.lastIndex.isSome = true) : RunningClock set.wedges (giveReference set w time c) := by
  have positive := h.remainder
  refine ⟨h.period, h.law, h.remainder, ⟨_, rfl, ?_, windowHalfWidth_le _ _⟩, ?_, h.misses, h.missCount, h.acquisition⟩
  · simp only [nextWedge]
    split <;> omega
  · simp only [giveReference]
    split
    · rfl
    · next other => exact index.resolve_left other

/-- A revolution length whose period is plausible, distributed over its wedges (R63). -/
theorem rolling_storeLength {wedges length : Nat} (positive : 0 < wedges) (p : plausible wedges length = true) {c : Clock}
    (misses : c.missed.length = c.missCount) (missCount : c.missCount ≤ 14) (acquisition : c.acquisition = none) :
    Rolling wedges (storeLength wedges length c) := by
  have range : 200 ≤ length / wedges ∧ length / wedges ≤ 65535 := by
    simp only [plausible, Bool.and_eq_true, decide_eq_true_eq] at p
    exact p
  have whole : length / wedges * wedges ≤ length := Nat.div_mul_le_self _ _
  have rest : length - length / wedges * wedges = length % wedges := by
    have := Nat.div_add_mod' length wedges
    omega
  refine ⟨range, by simp only [storeLength]; omega, ?_, misses, missCount, acquisition⟩
  simp only [storeLength, rest]
  exact Nat.mod_lt _ positive

theorem registersHeld_of_running {wedges : Nat} {c : Clock} (running : RunningClock wedges c) (state : c.state.running = true)
    (idle : c.idleTimer.isSome = true) : RegistersHeld wedges c := by
  refine ⟨fun _ => running, fun stopped => ?_, fun started => ?_, fun a started => ?_, ?_⟩
  · rw [state] at stopped
    cases stopped
  · rw [running.acquisition] at started
    cases started
  · rw [running.acquisition] at started
    cases started
  · cases e : c.state <;> simp_all [ClockState.running]

theorem registersHeld_lost (wedges : Nat) (c : Clock) : RegistersHeld wedges (lostClock c) := by
  constructor <;> simp [lostClock, ClockState.running]

theorem registersHeld_unlocked (wedges : Nat) (c : Clock) : RegistersHeld wedges (unlockedClock c) := by
  constructor <;> simp [unlockedClock, ClockState.running]

theorem registersHeld_locked {set : Settings} {arrival : Nat} {a : Acquisition} {c : Clock} (wedges : 0 < set.wedges)
    (good : measurementGood set.wedges arrival a = true) (idle : c.idleTimer.isSome = true) :
    RegistersHeld set.wedges (lockedClock set arrival a c) := by
  simp only [measurementGood, Bool.and_eq_true] at good
  have rolling := rolling_storeLength wedges good.2
    (c := { c with state := .locked, missCount := 0, missed := [], acquisition := none }) rfl (Nat.zero_le _) rfl
  exact registersHeld_of_running (rolling.referenced arrival (.inl rfl)) rfl idle

/-! ### A frame taken outside LOCKED and COASTING -/

section
variable {s : State}

/-- The clock that is not running takes a frame: its registers and timers stay in step. -/
theorem clockHeld_acquireFrame (h : ClockHeld s) (stopped : s.clock.state.running = false) (arrival w : Nat) (index : Bool) :
    ClockHeld (acquireFrame arrival w index s) := by
  obtain ⟨timers, registers⟩ := clockHeld_iff.mp h
  obtain ⟨expected, missed, missCount⟩ := registers.stopped stopped
  have wedges : 0 < s.settings.wedges := by have := h.settings.wedges.1; omega
  have refresh : s.out.refreshTimer.isSome = true := by rw [timers.refresh, stopped]; rfl
  have kept : ∀ c : Clock, c.state = .acquiring → c.expected = none → c.missed = [] → c.missCount = 0 → c.idleTimer.isSome = true →
      (∀ a, c.acquisition = some a → 1 ≤ a.frames ∧ a.frames ≤ 513) → ClockHeld (setClock c s) := by
    intro c state expected missed missCount idle frames
    rw [clockHeld_iff]
    refine ⟨⟨timers.settings, ?_, timers.budget⟩, ⟨?_, fun _ => ⟨expected, missed, missCount⟩, fun _ => state, frames, ?_⟩⟩
    · simp [refresh, state, ClockState.running]
    · simp [state, ClockState.running]
    · simp [state, idle]
  unfold acquireFrame
  split
  · next a state acquisition =>
    obtain ⟨lower, upper⟩ := registers.frames a acquisition
    dsimp only
    split
    · have started := kept (startIdle s.settings s.clock) state expected missed missCount rfl registers.frames
      unfold endMeasurement
      split
      · next good =>
        exact clockHeld_iff.mpr ⟨(clockHeld_iff.mp started).1.locked arrival a, by
          simpa using registersHeld_locked (set := s.settings) (c := startIdle s.settings s.clock) wedges good rfl⟩
      · have restarted := kept (startMeasurement arrival w (startIdle s.settings s.clock)) state expected missed missCount rfl
          (by simp [startMeasurement])
        obtain ⟨t, r⟩ := clockHeld_iff.mp restarted
        exact clockHeld_iff.mpr ⟨t.carried (counted_bump (F := { counters := [.acquireFails] }) _ (by decide)) rfl, r⟩
    · refine kept _ state expected missed missCount rfl fun b hb => ?_
      cases hb
      simp only [countAcquisition]
      omega
  · next state acquisition =>
    dsimp only
    split
    · exact kept _ state expected missed missCount rfl (by simp [startMeasurement])
    · exact kept _ state expected missed missCount rfl (by simp [startIdle, acquisition])
  · split
    · exact kept _ rfl expected missed missCount rfl (by simp [startMeasurement])
    · exact h

/-! ### A frame ruled in LOCKED or COASTING -/

theorem rolling_onTime {set : Settings} {c : Clock} (wedges : 0 < set.wedges) (running : RunningClock set.wedges c)
    (arrival w : Nat) : Rolling set.wedges
      { (if w = 0 then remeasure set arrival c else c) with state := .locked, missCount := 0, missed := [] } := by
  have kept : Rolling set.wedges { c with state := .locked, missCount := 0, missed := [] } :=
    { RunningClock.rolling running with misses := rfl, missCount := Nat.zero_le _ }
  split
  · unfold remeasure
    split
    · split
      · next p =>
        exact rolling_storeLength wedges p (c := { c with state := .locked, missCount := 0, missed := [] }) rfl (Nat.zero_le _)
          running.acquisition
      · exact kept
    · exact kept
  · exact kept

@[simp] theorem remeasure_lastIndex (set : Settings) (arrival : Nat) (c : Clock) :
    (remeasure set arrival c).lastIndex = c.lastIndex ∧ (remeasure set arrival c).idleTimer = c.idleTimer := by
  unfold remeasure
  split
  · split <;> exact ⟨rfl, rfl⟩
  · exact ⟨rfl, rfl⟩

/-- An on-time frame's clock (R63 to R65). -/
theorem registersHeld_onTime {set : Settings} {c : Clock} (wedges : 0 < set.wedges) (running : RunningClock set.wedges c)
    (idle : c.idleTimer.isSome = true) (arrival w : Nat) : RegistersHeld set.wedges (onTimeClock set arrival w c) := by
  refine registersHeld_of_running ((rolling_onTime wedges running arrival w).referenced arrival (.inr ?_)) rfl ?_
  · split
    · simpa using running.lastIndex
    · exact running.lastIndex
  · simp only [onTimeClock, giveReference]
    split
    · simpa using idle
    · exact idle

theorem registersHeld_early {set : Settings} {c : Clock} (running : RunningClock set.wedges c)
    (idle : c.idleTimer.isSome = true) (w : Nat) : RegistersHeld set.wedges (earlyClock set w c) := by
  obtain ⟨e, expected, -⟩ := running.expected
  have rolling : Rolling set.wedges { c with state := .coasting } := { RunningClock.rolling running with }
  simp only [earlyClock, expected]
  exact registersHeld_of_running (rolling.referenced e.predicted (.inr running.lastIndex)) rfl idle

theorem clockHeld_applyRuling (h : ClockHeld s) (state : s.clock.state.running = true) (r : Ruling) (arrival w : Nat) :
    ClockHeld (applyRuling r arrival w s) := by
  obtain ⟨timers, registers⟩ := clockHeld_iff.mp h
  have running := registers.running state
  have wedges : 0 < s.settings.wedges := by have := h.settings.wedges.1; omega
  have idle : s.clock.idleTimer.isSome = true := registers.idle.mpr (by cases e : s.clock.state <;> simp_all [ClockState.running])
  have moved : ∀ c : Clock, c.state.running = true → TimersHeld (setClock c s) := fun c hc =>
    ⟨timers.settings, by simp [hc, timers.refresh, state], timers.budget⟩
  cases r with
  | unruled | late => exact h
  | onTime => exact clockHeld_iff.mpr ⟨moved _ rfl, registersHeld_onTime wedges running idle arrival w⟩
  | early =>
    obtain ⟨e, expected, -⟩ := running.expected
    have coasting : (earlyClock s.settings w s.clock).state.running = true := by simp [earlyClock, expected, giveReference, ClockState.running]
    exact clockHeld_iff.mpr ⟨(moved _ coasting).carried (counted_bump (F := { counters := [.windowMiss] }) _ (by decide)) rfl,
      registersHeld_early running idle w⟩
  | slip =>
    have counted : TimersHeld (bump .slips s) :=
      timers.carried (counted_bump (F := { counters := [.slips] }) s (by decide)) rfl
    refine clockHeld_iff.mpr ⟨counted.departed rfl, ?_⟩
    simp only [applyRuling, Laws.setClock_clock, Laws.departure_frame]
    constructor <;> simp [slipClock, ClockState.running, idle]

theorem clockHeld_ruleStage (h : ClockHeld s) (arrival w : Nat) (index : Bool) :
    ClockHeld (ruleStage arrival w index s).1 := by
  unfold ruleStage
  split
  · next state =>
    obtain ⟨timers, registers⟩ := clockHeld_iff.mp h
    have running := registers.running state
    have idle : ClockHeld (setClock (startIdle s.settings s.clock) s) :=
      clockHeld_iff.mpr ⟨⟨timers.settings, timers.refresh, timers.budget⟩,
        registersHeld_of_running ⟨running.period, running.law, running.remainder, running.expected, running.lastIndex,
          running.misses, running.missCount, running.acquisition⟩ state rfl⟩
    exact clockHeld_applyRuling idle state _ arrival w
  · next state => exact clockHeld_acquireFrame h (by simpa using state) arrival w index

/-- What touches neither the clock nor the timer keeps both. -/
theorem clockHeld_carried {t : State} (h : ClockHeld s) {F : Footprint} (carried : Carried F s t) (clock : t.clock = s.clock)
    (timer : F.timer = false := by rfl) : ClockHeld t := by
  obtain ⟨timers, registers⟩ := clockHeld_iff.mp h
  exact clockHeld_iff.mpr ⟨timers.carried carried (by rw [clock]) timer, by rw [clock, carried.settings]; exact registers⟩

theorem clockHeld_clockStage (h : ClockHeld s) (arrival k w : Nat) (index : Bool) :
    ClockHeld (clockStage arrival k w index s).1 := by
  have ruled := clockHeld_ruleStage h arrival w index
  unfold clockStage
  dsimp only
  split
  · generalize (ruleStage arrival w index s).1 = u at ruled
    have stamped : ClockHeld (setClock { u.clock with stamp := u.clock.stamp + 1 } u) :=
      { ruled with
        running := fun state => { ruled.running state with }
        stopped := ruled.stopped }
    have refreshed := clockHeld_carried stamped (refreshBudget_carried (F := { budget := true }) _ rfl) rfl
    exact clockHeld_carried refreshed (ageDefects_carried k _) (by simp [revolutionEvent_clock])
  · exact ruled

theorem clockHeld_loseClock (h : TimersHeld s) (cause : Nat) : ClockHeld (loseClock cause s) :=
  clockHeld_iff.mpr ⟨h.lost cause, by simpa using registersHeld_lost _ _⟩

theorem clockHeld_unlockClock (h : TimersHeld s) : ClockHeld (unlockClock s) :=
  clockHeld_iff.mpr ⟨h.unlocked, by simpa using registersHeld_unlocked _ _⟩

theorem clockHeld_declareMissed (h : ClockHeld s) : ClockHeld (declareMissed s) := by
  rcases expected : s.clock.expected with _ | e
  · rw [declareMissed_none expected]
    exact h
  · obtain ⟨timers, registers⟩ := clockHeld_iff.mp h
    have state : s.clock.state.running = true := by
      by_contra stopped
      obtain ⟨none, -⟩ := registers.stopped (by simpa using stopped)
      rw [none] at expected
      cases expected
    have running := registers.running state
    have idle : s.clock.idleTimer.isSome = true := registers.idle.mpr (by cases e : s.clock.state <;> simp_all [ClockState.running])
    have still : (missedClock s.settings e s.clock).state.running = true := by
      simp only [missedClock, giveReference]
      split
      · rfl
      · exact state
    have timers : TimersHeld (missedOnce e s) := by
      have counted : TimersHeld (setClock (missedClock s.settings e s.clock) (bump .missedWedges s)) := by
        have refresh : s.out.refreshTimer.isSome = false := by rw [timers.refresh, state]; rfl
        exact ⟨timers.settings, by simp [still, refresh], timers.budget⟩
      exact counted.carried (synthesize_carried e.wedge _) (by simp)
    rw [declareMissed_some expected]
    split
    · exact clockHeld_loseClock timers 1
    · next below =>
      have limit := h.settings.lossLimit.2
      have rolling : Rolling s.settings.wedges
          { s.clock with
            missCount := s.clock.missCount + 1
            missed := s.clock.missed ++ [e.wedge]
            state := if s.clock.state = .locked then .coasting else s.clock.state } :=
        { RunningClock.rolling running with
          misses := by simp [running.misses]
          missCount := by dsimp only; omega }
      have registers : RegistersHeld s.settings.wedges (missedClock s.settings e s.clock) :=
        registersHeld_of_running (rolling.referenced e.predicted (.inr running.lastIndex)) still idle
      refine clockHeld_iff.mpr ⟨timers, ?_⟩
      rw [missedOnce_clock]
      simpa [missedOnce] using registers

theorem clockHeld_closePast (now fuel : Nat) (h : ClockHeld s) : ClockHeld (closePast now fuel s) := by
  induction fuel generalizing s with
  | zero => exact h
  | succ fuel ih =>
    unfold closePast
    split
    · exact ih (clockHeld_declareMissed h)
    · exact h

theorem clockHeld_idleExpiry (h : ClockHeld s) : ClockHeld (idleExpiry s) := by
  unfold idleExpiry
  split
  · exact clockHeld_loseClock (clockHeld_iff.mp h).1 2
  · exact h

/-! ### WEDGE frames -/

theorem clockHeld_handleWedge (h : ClockHeld s) (arrival : Nat) (f : WedgeRead) (bytes : Frame) :
    ClockHeld (handleWedge arrival f bytes s) := by
  have found : ClockHeld (contextFound f s) := clockHeld_carried h (contextFound_carried f s) (by simp [contextFound])
  have ruled : ClockHeld (ruled arrival f s).1 := clockHeld_clockStage found _ _ _ _
  have applied : ClockHeld (applied arrival f s).1 := clockHeld_carried ruled (applyStage_carried _ _ _) (by simp [applied])
  have planned : ClockHeld (planned arrival f s) := clockHeld_carried applied (planStage_carried _ _ _ _) (by simp [planned])
  have learned : ClockHeld (learned arrival f s) :=
    clockHeld_carried (F := {}) planned (engineStage_carried _ _ _ _) (by simp [learned])
  have classed : ClockHeld (classed arrival f s).1 := clockHeld_carried learned (frameStage_carried _ _ _) (by simp [classed])
  have passed : ClockHeld (passTargetChange f.head (Traffic.classed arrival f s).1) :=
    clockHeld_carried (F := {}) classed (.rest (by simp) (by simp) (by simp) (by simp)) (by simp)
  rw [handleWedge_eq]
  exact clockHeld_carried passed (forward_carried _ _ _) (by simp)

theorem clockHeld_passWedge (h : ClockHeld s) (arrival : Nat) (f : WedgeRead) (bytes : Frame) :
    ClockHeld (passWedge arrival f bytes s) := by
  have counted : ∀ (c : Counter) (s : State), ClockHeld s → ClockHeld (bump c s) := fun c s h =>
    clockHeld_carried h (counted_bump (F := { counters := [c] }) s (List.mem_singleton_self c)) rfl
  have foreign : ClockHeld (if s.settings.headCount ≤ f.head then bump .foreignHead s else s) := by
    split
    · exact counted _ s h
    · exact h
  unfold passWedge
  dsimp only
  generalize (if s.settings.headCount ≤ f.head then bump .foreignHead s else s) = u at foreign
  split
  · exact clockHeld_carried (counted _ _ foreign) (offerLoop_carried bytes _) (by simp)
  · have ruled := clockHeld_clockStage foreign arrival f.head f.wedge f.index
    have planned := clockHeld_carried ruled (planStage_carried f.head (clockStage arrival f.head f.wedge f.index u).2.event none _) (by simp)
    have learned := clockHeld_carried (F := {}) planned
      (engineStage_carried f.head (clockStage arrival f.head f.wedge f.index u).2.event false _) (by simp)
    exact clockHeld_carried learned (offerLoop_carried bytes _) (by simp)

theorem clockHeld_takeWedge (h : ClockHeld s) (arrival : Nat) (f : WedgeRead) (bytes : Frame) :
    ClockHeld (takeWedge arrival f bytes s) := by
  have closed := clockHeld_closePast arrival Config.maxMisses h
  unfold takeWedge
  dsimp only
  split
  · exact clockHeld_handleWedge closed arrival f bytes
  · exact clockHeld_passWedge closed arrival f bytes

/-! ### Requests -/

/-- What leaves the settings, the clock, the refresh timer and the budget. -/
theorem clockHeld_of_eq {t : State} (h : ClockHeld s) (settings : t.settings = s.settings) (clock : t.clock = s.clock)
    (timer : t.out.refreshTimer = s.out.refreshTimer) (budget : t.out.budget = s.out.budget) : ClockHeld t := by
  obtain ⟨timers, registers⟩ := clockHeld_iff.mp h
  exact clockHeld_iff.mpr ⟨⟨settings ▸ timers.settings, by rw [timer, clock]; exact timers.refresh, by rw [budget]; exact timers.budget⟩,
    by rw [settings, clock]; exact registers⟩

theorem storeSetting_wedges {t : Settings} {k v : Nat} (h : ¬(k = 1 ∧ v ≠ t.wedges)) : (storeSetting t k v).wedges = t.wedges := by
  unfold storeSetting
  split <;> simp_all

theorem clockHeld_writeCell {o : Obj} {k : Nat} (v : Int) (writable : readOnlyCell o k = false) (h : ClockHeld s) :
    ClockHeld (writeCell o k (storedValue o k v) s) := by
  cases o with
  | setting =>
    have stored := settingsHeld_writeCell v writable h.settings
    obtain ⟨timers, registers⟩ := clockHeld_iff.mp h
    simp only [writeCell, writeSetting_settings] at stored ⊢
    unfold writeSetting
    dsimp only
    split
    · exact clockHeld_unlockClock ⟨stored, timers.refresh, timers.budget⟩
    · next same => exact clockHeld_iff.mpr ⟨⟨stored, timers.refresh, timers.budget⟩, by rw [storeSetting_wedges same]; exact registers⟩
  | headrec | lintab | runout | defect | planstep | state | counter | alert => exact clockHeld_of_eq h rfl rfl rfl rfl

theorem clockHeld_restart (h : SettingsHeld s.settings) : ClockHeld (restartState s) := by
  have limit := h.reportLimit
  constructor <;> simp [restartState, restartOutput, ClockState.running, h, Config.refreshMs]
  unfold budgetOf
  split <;> simp
  omega

theorem clockHeld_managed {t : State} (h : ClockHeld s) {code : Nat} {m : Mgmt} (action : Managed code m s t) : ClockHeld t := by
  cases action with
  | unchanged => exact h
  | written o _ _ accepted =>
    exact written_keeps accepted (fun _ v _ writable _ _ => clockHeld_writeCell v writable) h
  | started => exact clockHeld_carried h (startPlan_carried s) (by simp)
  | stopped => exact clockHeld_carried h (stopPlan_carried s) (by simp)
  | added => exact clockHeld_carried h (Scheduling.addDefect_carried _ _ s) (by simp)
  | removed | flushed | cleared | zeroed => exact clockHeld_of_eq h rfl rfl rfl rfl
  | restarted => exact clockHeld_restart h.settings

end

/-- Admissions leave the budget and its timer. -/
theorem offerStatus_timers (f : Frame) (s : State) :
    (offerStatus f s).out.refreshTimer = s.out.refreshTimer ∧ (offerStatus f s).out.budget = s.out.budget := by
  unfold offerStatus
  split
  · exact ⟨(Carried.admitted_budget _).2, (Carried.admitted_budget _).1⟩
  · exact ⟨rfl, rfl⟩

theorem benchTransmitEnd_timers (s : State) :
    (benchTransmitEnd s).out.refreshTimer = s.out.refreshTimer ∧ (benchTransmitEnd s).out.budget = s.out.budget := by
  unfold benchTransmitEnd
  split
  · have free : grantOutput { s.out with sending := none } = admitted { s.out with sending := none } := rfl
    rw [free]
    exact ⟨(Carried.admitted_budget _).2, (Carried.admitted_budget _).1⟩
  · exact ⟨rfl, rfl⟩

/-- Every effect keeps the clock's law. -/
theorem clockHeld_effect (c : Instr) (s t : State) (h : ClockHeld s) (effect : Effect c s t) : ClockHeld t := by
  cases effect with
  | powerOn =>
    obtain ⟨-, -, -, reset, -⟩ := resetMeetsTheInvariants
    exact clockHeld_of_eq reset rfl rfl rfl rfl
  | frontFailed | benchFailed | discarded | hold | fifo | frontEnd => exact clockHeld_of_eq h (by simp) (by simp) (by simp) (by simp)
  | wedge arrival bytes => exact clockHeld_takeWedge h arrival _ bytes
  | status bytes =>
    exact clockHeld_of_eq h (by simp) (by simp) (offerStatus_timers bytes s).1 (offerStatus_timers bytes s).2
  | request code object r =>
    have managed := clockHeld_managed h (actionOf_managed code (readRequest code object r) s)
    exact clockHeld_of_eq managed (by simp) (by simp) (Carried.admitted_budget _).2 (Carried.admitted_budget _).1
  | missed => exact clockHeld_declareMissed h
  | idle => exact clockHeld_idleExpiry h
  | wait => exact clockHeld_carried h (waitTimerExpiry_carried s) (by simp)
  | refresh =>
    unfold refreshTimerExpiry
    split
    · next running =>
      have refreshed := clockHeld_carried h (refreshBudget_carried (F := { budget := true }) s rfl) rfl
      exact { refreshed with refresh := running.symm.trans h.refresh }
    · exact h
  | benchEnd =>
    exact clockHeld_of_eq h (by simp) (by simp) (benchTransmitEnd_timers s).1 (benchTransmitEnd_timers s).2

/-- Settles O57. -/
theorem theClockLawIsKept : Obligations.TheClockLawIsKept :=
  step_keeps (fun _ _ h => clockHeld_of_eq h rfl rfl rfl rfl) clockHeld_effect

end Sys2Proof.ClockLaw
end

section
/-! PROOFS. What head switches, HOLD frames, slips and clock losses do to the learning state and the plan (R50, R55, R73, R85,
R122), and what the clock answers about a frame. -/

namespace Sys2Proof.Notices

set_option Elab.async false

open Sys2Proof.Machine Sys2Proof.Safety Sys2Proof.Traffic Sys2Proof.ClockLaw

/-! ### The two receivers of a notice -/

/-- The learning state after a notice: a running accumulation is thrown away (R85). -/
def discarded (e : Engine) : Engine :=
  if e.pass = .accumulate then { e with cells := [], revs := 0, pass := .ready } else e

/-- The plan after a notice: an ACTIVE step waits again (R122). -/
def returned (steps : Table PlanStep) (p : Plan) : Plan :=
  match p.current, p.sub with
  | some n, some .active =>
    { p with sub := some .waiting, regs := {}, waitTimer := waitTimerOf (Table.get {} steps n).timeout }
  | _, _ => p

@[simp] theorem discardAccumulation_engine (s : State) : (discardAccumulation s).engine = discarded s.engine := by
  unfold discardAccumulation discarded
  split <;> rfl

@[simp] theorem returnToWaiting_plan (s : State) : (returnToWaiting s).plan = returned s.steps s.plan := by
  unfold returnToWaiting returned
  split <;> simp_all [planStep]

theorem discarded_idem (e : Engine) : discarded (discarded e) = discarded e := by
  unfold discarded
  split <;> simp_all

@[simp] theorem discarded_fields (e : Engine) : (discarded e).binding = e.binding ∧ (discarded e).params = e.params ∧
    (discarded e).passNumber = e.passNumber ∧ (discarded e).pendingSolve = e.pendingSolve := by
  unfold discarded
  split <;> exact ⟨rfl, rfl, rfl, rfl⟩

@[simp] theorem returned_fields (steps : Table PlanStep) (p : Plan) : (returned steps p).state = p.state ∧
    (returned steps p).current = p.current ∧ (returned steps p).ended = p.ended ∧ (returned steps p).failed = p.failed ∧
    (returned steps p).last = p.last ∧ (returned steps p).tallies = p.tallies := by
  unfold returned
  split <;> exact ⟨rfl, rfl, rfl, rfl, rfl, rfl⟩

theorem discarded_pass (e : Engine) : (discarded e).pass ≠ .accumulate := by
  unfold discarded
  split
  · exact fun h => by cases h
  · assumption

theorem discarded_solve (e : Engine) : (discarded e).pass = .solve ↔ e.pass = .solve := by
  unfold discarded
  split <;> simp_all

theorem discarded_cells (e : Engine) : (discarded e).cells = e.cells ∨ (discarded e).cells = [] := by
  unfold discarded
  split
  · exact .inr rfl
  · exact .inl rfl

theorem boundTo_congr {s t : State} (h : t.engine.binding = s.engine.binding) (k : Nat) : boundTo t k = boundTo s k := by
  simp only [boundTo, h]

/-! ### Who gives a notice -/

@[simp] theorem headNotice_engine (h : Nat) (s : State) :
    (headNotice h s).engine = if boundTo s h then discarded s.engine else s.engine := by
  unfold headNotice
  dsimp only
  split_ifs <;> simp

theorem stepHead_congr {s t : State} (plan : t.plan.current = s.plan.current) (steps : t.steps = s.steps) :
    stepHead t = stepHead s := by
  simp only [stepHead, planStep, plan, steps]

@[simp] theorem headNotice_plan (h : Nat) (s : State) :
    (headNotice h s).plan = if stepHead s = some h then returned s.steps s.plan else s.plan := by
  have same : stepHead (if boundTo s h then discardAccumulation s else s) = stepHead s := by
    split
    · exact stepHead_congr (by simp) (by simp)
    · rfl
  unfold headNotice
  dsimp only
  rw [same]
  split_ifs <;> simp

theorem departure_engine (s : State) :
    (departure s).engine = if s.clock.state.running then discarded s.engine else s.engine := by
  unfold departure
  split <;> simp [clockLossNotice]

theorem departure_plan (s : State) :
    (departure s).plan = if s.clock.state.running then returned s.steps s.plan else s.plan := by
  unfold departure
  split <;> simp [clockLossNotice]

theorem headSwitch_same {h : Nat} {s : State} (active : s.activeHead = some h) : headSwitch h s = s := by
  simp [headSwitch, active]

theorem headSwitch_first {h : Nat} {s : State} (active : s.activeHead = none) :
    (headSwitch h s).engine = s.engine ∧ (headSwitch h s).plan = s.plan ∧ (headSwitch h s).alerts = s.alerts := by
  simp [headSwitch, active]

/-- The head switched away from has the notice (R50). -/
theorem headSwitch_away {h k : Nat} {s : State} (active : s.activeHead = some k) (other : k ≠ h) :
    (headSwitch h s).engine = (if boundTo s k then discarded s.engine else s.engine) ∧
      (headSwitch h s).plan = if stepHead s = some k then returned s.steps s.plan else s.plan := by
  have switch : s.activeHead ≠ some h := fun e => other (Option.some.inj (active.symm.trans e))
  have bound : ∀ c, boundTo (setHeadContext h c { s with activeHead := some h }) k = boundTo s k := fun _ => rfl
  have head : ∀ c, stepHead (setHeadContext h c { s with activeHead := some h }) = stepHead s := fun _ => rfl
  unfold headSwitch
  rw [if_neg switch]
  simp [active, bound, head]

theorem loseClock_engine (cause : Nat) (s : State) : (loseClock cause s).engine = (departure s).engine := by
  simp [loseClock]

theorem loseClock_plan (cause : Nat) (s : State) : (loseClock cause s).plan = (departure s).plan := by
  simp [loseClock]

theorem unlockClock_engine (s : State) : (unlockClock s).engine = (departure s).engine := by
  simp [unlockClock]

theorem unlockClock_plan (s : State) : (unlockClock s).plan = (departure s).plan := by
  simp [unlockClock]

/-! ### The clock's answer about a frame -/

/-- A frame is a slip only while the clock runs. -/
theorem running_of_slip {arrival : Nat} {f : WedgeRead} {s : State} (h : rulingOn arrival f s = .slip) :
    s.clock.state.running = true := by
  unfold rulingOn at h
  split at h
  · assumption
  · cases h

theorem ruleFrame_startIdle (set : Settings) (c : Clock) (arrival w : Nat) (index : Bool) :
    ruleFrame (startIdle set c) arrival w index = ruleFrame c arrival w index := rfl

theorem ruleStage_result (arrival : Nat) (f : WedgeRead) (s : State) :
    (ruleStage arrival f.wedge f.index s).2 =
      { ruling := rulingOn arrival f s
        lockedOnTime := s.clock.state == .locked && rulingOn arrival f s == .onTime
        event := s.clock.state.running && f.index } := by
  unfold ruleStage rulingOn
  split
  · next running => simp [running]
  · next stopped =>
    have unlocked : (s.clock.state == .locked) = false := by cases e : s.clock.state <;> simp_all [ClockState.running]
    simp [stopped, unlocked]

/-- What the clock answers about a frame (R65 to R72). -/
theorem clockStage_result (arrival : Nat) (f : WedgeRead) (s : State) :
    (clockStage arrival f.head f.wedge f.index s).2 =
      { ruling := rulingOn arrival f s
        lockedOnTime := s.clock.state == .locked && rulingOn arrival f s == .onTime
        event := s.clock.state.running && f.index } := ruleStage_result arrival f s

theorem ruleStage_engine (arrival : Nat) (f : WedgeRead) (s : State) :
    (ruleStage arrival f.wedge f.index s).1.engine =
      if rulingOn arrival f s = .slip then discarded s.engine else s.engine := by
  unfold ruleStage
  split
  · next running =>
    simp only [rulingOn, running, if_true]
    cases ruleFrame s.clock arrival f.wedge f.index <;> simp [applyRuling, departure_engine, startIdle, running]
  · next stopped => simp [rulingOn, stopped]

theorem ruleStage_plan (arrival : Nat) (f : WedgeRead) (s : State) :
    (ruleStage arrival f.wedge f.index s).1.plan =
      if rulingOn arrival f s = .slip then returned s.steps s.plan else s.plan := by
  unfold ruleStage
  split
  · next running =>
    simp only [rulingOn, running, if_true]
    cases ruleFrame s.clock arrival f.wedge f.index <;> simp [applyRuling, departure_plan, startIdle, running]
  · next stopped => simp [rulingOn, stopped]

/-- The clock stage reaches the learning state at a slip alone (R68, R73). -/
theorem clockStage_engine (arrival : Nat) (f : WedgeRead) (s : State) :
    (clockStage arrival f.head f.wedge f.index s).1.engine =
      if rulingOn arrival f s = .slip then discarded s.engine else s.engine := by
  rw [← ruleStage_engine]
  unfold clockStage
  dsimp only
  split <;> simp

/-- The clock stage reaches the plan at a slip alone (R68, R73). -/
theorem clockStage_plan (arrival : Nat) (f : WedgeRead) (s : State) :
    (clockStage arrival f.head f.wedge f.index s).1.plan =
      if rulingOn arrival f s = .slip then returned s.steps s.plan else s.plan := by
  rw [← ruleStage_plan]
  unfold clockStage
  dsimp only
  split <;> simp

theorem clockStage_clock (arrival : Nat) (f : WedgeRead) (s : State) :
    (clockStage arrival f.head f.wedge f.index s).1.clock =
      { (ruleStage arrival f.wedge f.index s).1.clock with
        stamp := if s.clock.state.running && f.index then (ruleStage arrival f.wedge f.index s).1.clock.stamp + 1
          else (ruleStage arrival f.wedge f.index s).1.clock.stamp } := by
  have event : (ruleStage arrival f.wedge f.index s).2.event = (s.clock.state.running && f.index) := by
    rw [ruleStage_result]
  unfold clockStage
  dsimp only
  rw [event]
  split <;> simp [revolutionEvent_clock]

/-- A running clock stops at a slip alone. -/
theorem clockStage_running {arrival : Nat} {f : WedgeRead} {s : State} (running : s.clock.state.running = true)
    (steady : rulingOn arrival f s ≠ .slip) : (clockStage arrival f.head f.wedge f.index s).1.clock.state.running = true := by
  rw [clockStage_clock]
  unfold ruleStage
  unfold rulingOn at steady
  rw [if_pos running] at steady ⊢
  dsimp only
  cases e : ruleFrame s.clock arrival f.wedge f.index with
  | unruled | late => simpa [applyRuling, startIdle, e] using running
  | onTime => rfl
  | early =>
    unfold ruleFrame at e
    split at e
    · next x expected => simp [applyRuling, earlyClock, startIdle, expected, giveReference, ClockState.running]
    · split at e <;> cases e
  | slip => exact absurd e steady

/-! ### Missed wedges -/

@[simp] theorem missedOnce_fields (e : Expectation) (s : State) :
    (missedOnce e s).engine = s.engine ∧ (missedOnce e s).plan = s.plan ∧ (missedOnce e s).steps = s.steps ∧
      (missedOnce e s).settings = s.settings ∧ (missedOnce e s).headRecs = s.headRecs ∧
      (missedOnce e s).contexts = s.contexts ∧ (missedOnce e s).activeHead = s.activeHead := by
  simp [missedOnce]

theorem missedClock_running (set : Settings) (e : Expectation) (c : Clock) :
    (missedClock set e c).state.running = c.state.running := by
  simp only [missedClock, giveReference]
  split
  · next locked => simp [locked, ClockState.running]
  · rfl

/-- A missed wedge locks no clock. -/
theorem declareMissed_locked {s : State} (h : (declareMissed s).clock.state = .locked) : s.clock.state = .locked := by
  rcases expected : s.clock.expected with _ | e
  · rwa [declareMissed_none expected] at h
  · rw [declareMissed_some expected] at h
    split at h
    · simp [lostClock] at h
    · simp only [missedOnce_clock, missedClock, giveReference] at h
      split at h
      · cases h
      · exact h

theorem closePast_locked {now fuel : Nat} {s : State} (h : (closePast now fuel s).clock.state = .locked) :
    s.clock.state = .locked := by
  induction fuel generalizing s with
  | zero => exact h
  | succ fuel ih =>
    unfold closePast at h
    split at h
    · exact declareMissed_locked (ih h)
    · exact h

end Sys2Proof.Notices
end

section
/-! PROOFS. The Plan Controller: the plan and the learning state after a step's end, a closed revolution and stage 4 (R121 to R130). -/

namespace Sys2Proof.PlanSteps

set_option Elab.async false

open Sys2Proof.Machine Sys2Proof.Safety Sys2Proof.Traffic Sys2Proof.Notices

/-! ### A step's end -/

/-- The end of step `n` ends the plan (R123, R124). -/
def EndsPlan (steps : Table PlanStep) (n : Nat) (o : StepOutcome) : Prop :=
  o = .aborted ∨ (o.failure = true ∧ (Table.get {} steps n).onFail = .stop) ∨ n = 31 ∨ (Table.get {} steps (n + 1)).phase = .none

/-- The plan's figures after the end of step `n`, its timer stopped (R123). -/
def talliedPlan (n : Nat) (o : StepOutcome) (p : Plan) : Plan :=
  { p with
    ended := p.ended + 1
    failed := if o.failure then p.failed + 1 else p.failed
    last := some n
    waitTimer := none }

/-- The plan that has ended (R123). -/
def endedPlan (p : Plan) : Plan := { p with state := .ended, current := none, sub := none, waitTimer := none }

/-- The plan that has entered step `n` (R120). -/
def enteredPlan (steps : Table PlanStep) (n : Nat) (p : Plan) : Plan :=
  { p with
    current := some n
    sub := some .waiting
    regs := {}
    tallies := {}
    waitTimer := waitTimerOf (Table.get {} steps n).timeout }

theorem enterStep_plan (n : Nat) (s : State) : (enterStep n s).plan = enteredPlan s.steps n s.plan := rfl

theorem advance_plan_ends {n : Nat} {o : StepOutcome} {s : State} (h : EndsPlan s.steps n o) :
    (advance n o s).plan = endedPlan s.plan := by
  rcases Laws.advance_cases n o s with ⟨-, e⟩ | ⟨-, -, -, e⟩ | ⟨-, -, -, e⟩ | ⟨aborted, failed, last, e⟩
  · rw [e, Laws.endPlan_plan]; rfl
  · rw [e, Laws.endPlan_plan]; rfl
  · rw [e, Laws.endPlan_plan]; rfl
  · rcases h with h | h | h | h
    · exact absurd h aborted
    · exact absurd h failed
    · exact absurd (.inl h) last
    · exact absurd (.inr h) last

theorem advance_next {n : Nat} {o : StepOutcome} {s : State} (h : ¬EndsPlan s.steps n o) :
    advance n o s = enterStep (n + 1) s := by
  rcases Laws.advance_cases n o s with ⟨e, -⟩ | ⟨-, f, stop, -⟩ | ⟨-, -, last, -⟩ | ⟨-, -, -, e⟩
  · exact absurd (.inl e) h
  · exact absurd (.inr (.inl ⟨f, stop⟩)) h
  · exact absurd (.inr (.inr last)) h
  · exact e

/-- The state a step's end leaves before the plan advances: STEP_RESULT, alert, figures, timer, unbinding (R123). -/
def concluded (n : Nat) (o : StepOutcome) (s : State) : State :=
  let s₁ := offerReport 5 (stepResult n o s) s
  let s₂ := if o.failure then bump .stepsFailed (raise .stepFailed s₁) else raise .stepDone s₁
  unbindStep n (setPlan (talliedPlan n o s.plan) s₂)

theorem endStep_eq (n : Nat) (o : StepOutcome) (s : State) : endStep n o s = advance n o (concluded n o s) := by
  unfold endStep concluded tallyStep talliedPlan
  cases o.failure <;> simp [setPlan]

/-- The learning state after the end of step `n`: unbound if it was bound to it (R79, R91). -/
def unboundBy (n : Nat) (e : Engine) : Engine :=
  match e.binding with
  | some b => if b.step = n then {} else e
  | none => e

theorem unbindStep_engine (n : Nat) (s : State) : (unbindStep n s).engine = unboundBy n s.engine := by
  unfold unbindStep unboundBy
  rcases s.engine.binding with _ | b
  · rfl
  · dsimp only
    split <;> rfl

@[simp] theorem concluded_fields (n : Nat) (o : StepOutcome) (s : State) :
    (concluded n o s).engine = unboundBy n s.engine ∧ (concluded n o s).plan = talliedPlan n o s.plan ∧
      (concluded n o s).steps = s.steps := by
  unfold concluded
  dsimp only
  refine ⟨?_, by simp, ?_⟩
  · rw [unbindStep_engine]
    split <;> simp
  · split <;> simp

theorem endStep_engine (n : Nat) (o : StepOutcome) (s : State) : (endStep n o s).engine = unboundBy n s.engine := by
  rw [endStep_eq]
  simp

/-- The plan ends with the step. -/
theorem endStep_plan_ends {n : Nat} {o : StepOutcome} {s : State} (h : EndsPlan s.steps n o) :
    (endStep n o s).plan = endedPlan (talliedPlan n o s.plan) := by
  rw [endStep_eq, advance_plan_ends (by simpa using h)]
  simp

/-- The next step is entered. -/
theorem endStep_plan_next {n : Nat} {o : StepOutcome} {s : State} (h : ¬EndsPlan s.steps n o) :
    (endStep n o s).plan = enteredPlan s.steps (n + 1) (talliedPlan n o s.plan) := by
  rw [endStep_eq, advance_next (by simpa using h), enterStep_plan]
  simp

theorem stopPlan_running {s : State} {n : Nat} (running : s.plan.state = .running) (current : s.plan.current = some n) :
    stopPlan s = endStep n .aborted s := by
  simp [stopPlan, running, current]

/-! ### A closed revolution and stage 4 -/

/-- What closing a revolution of a step on head `h` can do: nothing, a count in the registers, or the step's end, before which an
OFFSET step may write its result (R126, R128, R129). -/
inductive Closed (h : Nat) (s : State) : State → Prop
  | same : Closed h s s
  | counted (n : Nat) (r : Registers) : s.plan.current = some n → s.plan.sub = some .active → (planStep s n).head = h →
      Closed h s (setPlan { s.plan with regs := r } s)
  | ended (n : Nat) (r : Registers) (o : StepOutcome) : s.plan.current = some n → s.plan.sub = some .active →
      (planStep s n).head = h → Closed h s (endStep n o (setPlan { s.plan with regs := r } s))
  | written (n : Nat) (r : Registers) (v : Int) : s.plan.current = some n → s.plan.sub = some .active →
      (planStep s n).head = h → (planStep s n).phase = .offset →
      Closed h s (endStep n .passed (writeMeasuredOffset h v (setPlan { s.plan with regs := r } s)))

theorem closeRevolution_closed (h : Nat) (s : State) : Closed h s (closeRevolution h s) := by
  unfold closeRevolution
  split
  · next n current sub =>
    dsimp only
    split
    · next head =>
      split
      · unfold closeSettle
        dsimp only
        generalize Registers.mk _ _ _ _ _ _ _ _ _ _ _ _ = regs
        generalize (if s.plan.regs.settleMark then 0 else s.plan.regs.settleClean + 1) = clean
        split_ifs
        · exact .ended n regs _ current sub head
        · exact .ended n regs _ current sub head
        · exact .counted n regs current sub head
      · next offset =>
        unfold closeOffset
        dsimp only
        split_ifs
        · rw [head]
          exact .written n { s.plan.regs with offsetRevs := s.plan.regs.offsetRevs + 1, offsetOld := effectiveOffset s h } _
            current sub head offset
        · exact .ended n { s.plan.regs with
            offsetRevs := s.plan.regs.offsetRevs + 1, offsetOld := effectiveOffset s (planStep s n).head } _ current sub head
        · exact .counted n _ current sub head
      · unfold closeVerify
        dsimp only
        split_ifs
        · exact .ended n _ _ current sub head
        · exact .counted n _ current sub head
      all_goals exact .same
    · exact .same
  · exact .same

/-- Stage 4 before activation: a LEARN step's end as the apply decided it, or a closed revolution (R90, R130). -/
theorem closeStage_cases (h : Nat) (event : Bool) (after : Option AfterApply) (s : State) :
    (∃ n o, s.plan.current = some n ∧ (after = some .converged ∧ o = .converged ∨ after = some .completed ∧ o = .completed) ∧
      closeStage h event after s = endStep n o s) ∨
    Closed h s (closeStage h event after s) := by
  unfold closeStage
  split_ifs with decided
  · unfold endLearn
    split
    · next n current => exact .inl ⟨n, .converged, current, .inl ⟨rfl, rfl⟩, rfl⟩
    · next n current => exact .inl ⟨n, .completed, current, .inr ⟨rfl, rfl⟩, rfl⟩
    · exact .inr .same
  · exact .inr (closeRevolution_closed h s)
  · exact .inr .same

/-- What stage 4 leaves of the learning state: all of it, or a step's end has unbound it. -/
theorem planStage_engine (h : Nat) (event : Bool) (after : Option AfterApply) (s : State) :
    (planStage h event after s).engine = s.engine ∨
      ∃ n, s.plan.current = some n ∧ (planStage h event after s).engine = unboundBy n s.engine := by
  have same : (planStage h event after s).engine = (closeStage h event after s).engine := by
    rw [planStage_eq]
    split <;> simp
  rw [same]
  rcases closeStage_cases h event after s with ⟨n, o, current, -, e⟩ | closed
  · rw [e, endStep_engine]
    exact .inr ⟨n, current, rfl⟩
  · generalize closeStage h event after s = t at closed ⊢
    cases closed with
    | same => exact .inl rfl
    | counted n r current => exact .inl rfl
    | ended n r o current => exact .inr ⟨n, current, by rw [endStep_engine]; rfl⟩
    | written n r v current => exact .inr ⟨n, current, by rw [endStep_engine]; simp⟩

end Sys2Proof.PlanSteps
end

section
/-! PROOFS. Who changes the learning cells and the compensation entries of the bound head (R75, R77, R83 to R90). -/

namespace Sys2Proof.Samples

set_option Elab.async false

open Sys2Proof.Machine Sys2Proof.Safety Sys2Proof.Commands Sys2Proof.Actions Sys2Proof.Traffic Sys2Proof.ClockLaw
  Sys2Proof.Notices Sys2Proof.PlanSteps

/-! ### The learning state up to stage 2 -/

/-- A learning state that notices at most have reached. -/
def Noticed (e e' : Engine) : Prop := e' = e ∨ e' = discarded e

theorem Noticed.trans {e₁ e₂ e₃ : Engine} (h₁ : Noticed e₁ e₂) (h₂ : Noticed e₂ e₃) : Noticed e₁ e₃ := by
  rcases h₁ with rfl | rfl
  · exact h₂
  · rcases h₂ with rfl | rfl
    · exact .inr rfl
    · exact .inr (discarded_idem _)

theorem noticed_ite (e : Engine) (P : Prop) [Decidable P] : Noticed e (if P then discarded e else e) := by
  split
  · exact .inr rfl
  · exact .inl rfl

theorem Noticed.binding {e e' : Engine} (h : Noticed e e') : e'.binding = e.binding := by
  rcases h with rfl | rfl <;> simp

theorem Noticed.solve {e e' : Engine} (h : Noticed e e') : e'.pass = .solve ↔ e.pass = .solve := by
  rcases h with rfl | rfl
  · rfl
  · exact discarded_solve e

theorem contextStage_noticed (h : Nat) (s : State) : Noticed s.engine (contextStage h s).1.engine := by
  have switched : (contextStage h s).1.engine = (headSwitch h s).engine := by simp [contextStage]
  rw [switched]
  rcases active : s.activeHead with _ | k
  · rw [(headSwitch_first active).1]
    exact .inl rfl
  · by_cases same : k = h
    · rw [headSwitch_same (active.trans (by rw [same]))]
      exact .inl rfl
    · rw [(headSwitch_away active same).1]
      exact noticed_ite _ _

theorem clockStage_noticed (arrival : Nat) (f : WedgeRead) (s : State) :
    Noticed s.engine (clockStage arrival f.head f.wedge f.index s).1.engine := by
  rw [clockStage_engine]
  exact noticed_ite _ _

theorem departure_noticed (s : State) : Noticed s.engine (departure s).engine := by
  rw [departure_engine]
  exact noticed_ite _ _

theorem declareMissed_noticed (s : State) : Noticed s.engine (declareMissed s).engine := by
  rcases expected : s.clock.expected with _ | e
  · rw [declareMissed_none expected]
    exact .inl rfl
  · rw [declareMissed_some expected]
    split
    · rw [loseClock_engine]
      simpa using departure_noticed (missedOnce e s)
    · exact .inl (by simp)

theorem closePast_noticed (now fuel : Nat) (s : State) : Noticed s.engine (closePast now fuel s).engine := by
  induction fuel generalizing s with
  | zero => exact .inl rfl
  | succ fuel ih =>
    unfold closePast
    split
    · exact (declareMissed_noticed s).trans (ih _)
    · exact .inl rfl

theorem idleExpiry_noticed (s : State) : Noticed s.engine (idleExpiry s).engine := by
  unfold idleExpiry
  split
  · rw [loseClock_engine]
    exact departure_noticed s
  · exact .inl rfl

theorem readHoldFrame_noticed (f : HoldRead) (s : State) : Noticed s.engine (readHoldFrame f s).engine := by
  unfold readHoldFrame
  dsimp only
  split_ifs
  · rw [headNotice_engine]
    exact noticed_ite _ _
  · exact .inl rfl
  · exact .inl rfl

theorem writeSetting_noticed (k v : Nat) (s : State) : Noticed s.engine (writeSetting k v s).engine := by
  unfold writeSetting
  dsimp only
  split
  · rw [unlockClock_engine]
    exact departure_noticed _
  · exact .inl rfl

/-! ### Cells -/

/-- The cells stand, or they are cleared. -/
def CellsKept (e e' : Engine) : Prop := e'.cells = e.cells ∨ e'.cells = []

theorem CellsKept.trans {e₁ e₂ e₃ : Engine} (h₁ : CellsKept e₁ e₂) (h₂ : CellsKept e₂ e₃) : CellsKept e₁ e₃ := by
  rcases h₂ with h | h
  · rcases h₁ with h' | h'
    · exact .inl (h.trans h')
    · exact .inr (h.trans h')
  · exact .inr h

theorem Noticed.cells {e e' : Engine} (h : Noticed e e') : CellsKept e e' := by
  rcases h with rfl | rfl
  · exact .inl rfl
  · exact discarded_cells e

theorem unboundBy_cells (n : Nat) (e : Engine) : CellsKept e (unboundBy n e) := by
  unfold unboundBy
  rcases e.binding with _ | b
  · exact .inl rfl
  · dsimp only
    split
    · exact .inr rfl
    · exact .inl rfl

theorem applyStage_cells (h : Nat) (index : Bool) (s : State) : CellsKept s.engine (applyStage h index s).1.engine := by
  unfold applyStage applySolve
  split
  · split <;> exact .inl rfl
  · exact .inl rfl

theorem planStage_cells (h : Nat) (event : Bool) (after : Option AfterApply) (s : State) :
    CellsKept s.engine (planStage h event after s).engine := by
  rcases planStage_engine h event after s with e | ⟨n, -, e⟩ <;> rw [e]
  · exact .inl rfl
  · exact unboundBy_cells n _

theorem countPassRevolution_cells (s : State) : (countPassRevolution s).engine.cells = s.engine.cells := by
  unfold countPassRevolution
  split
  · dsimp only
    split <;> rfl
  · rfl

theorem engineStage_cells (h : Nat) (event further : Bool) (s : State) :
    CellsKept s.engine (engineStage h event further s).engine := by
  unfold engineStage
  split
  · split
    · exact .inl (countPassRevolution_cells s)
    · exact .inl rfl
  · exact .inl rfl
  all_goals
    split
    · split
      · exact .inr (Laws.beginPass_engine h _ s).2.2.1
      · exact .inl rfl
    · exact .inl rfl

/-- The learning state after stage 6: an accepted sample has been added to the wedge's cell, or it stands (R83). -/
inductive Sampled (f : WedgeRead) (k : FrameFacts) (s : State) : Engine → Prop
  | same : Sampled f k s s.engine
  | added (ec : Int) : k.clock.lockedOnTime = true → s.engine.pass = .accumulate → boundTo s f.head = true →
      (engineCell s f.wedge).count < cellLimit s → ec.natAbs ≤ s.settings.learnWindow →
      Sampled f k s (addSample f.wedge ec s).engine

theorem sampleStage_sampled {f : WedgeRead} {k : FrameFacts} {ec : Int} {s u : State} (engine : u.engine = s.engine)
    (settings : u.settings = s.settings) : Sampled f k s (sampleStage f k ec u).engine := by
  unfold sampleStage
  split
  · next accepted =>
    simp only [sampleAccepted, Bool.and_eq_true, beq_iff_eq, decide_eq_true_eq] at accepted
    obtain ⟨⟨⟨⟨⟨⟨⟨pass, bound⟩, locked⟩, -⟩, -⟩, -⟩, window⟩, room⟩ := accepted
    have same : (addSample f.wedge ec u).engine = (addSample f.wedge ec s).engine := by
      simp [addSample, engineCell, engine]
    rw [same]
    rw [engine] at pass
    rw [settings] at window
    exact .added ec locked pass (by rwa [boundTo, engine] at bound) (by rwa [engineCell, cellLimit, engine] at room) window
  · rw [engine]
    exact .same

theorem demodulatedStage_engine (f : WedgeRead) (k : FrameFacts) (ec : Int) (s : State) :
    (demodulatedStage f k ec s).1.engine =
      (sampleStage f k ec (if k.props.seeking then storeDemodulated ec f s
        else (monitorCount f.head f.wedge (clampOutput ec) (storeDemodulated ec f s)).1)).engine := by
  unfold demodulatedStage
  split <;> simp_all

/-- Stage 6 reaches the learning state by an accepted sample alone. -/
theorem frameStage_sampled (f : WedgeRead) (k : FrameFacts) (s : State) : Sampled f k s (frameStage f k s).1.engine := by
  unfold frameStage
  dsimp only
  split
  · simpa using Sampled.same (f := f) (k := k) (s := s)
  · next ec _ =>
    simp only [Laws.settleWatch_frame, demodulatedStage_engine]
    refine sampleStage_sampled ?_ ?_ <;> split <;> simp

/-! ### WEDGE frames -/

/-- Up to stage 5 the cells stand or are cleared. -/
theorem learned_cells (arrival : Nat) (f : WedgeRead) (s : State) : CellsKept s.engine (learned arrival f s).engine :=
  ((((contextStage_noticed f.head s).trans (clockStage_noticed arrival f _)).cells.trans
    (applyStage_cells f.head f.index _)).trans (planStage_cells f.head _ _ _)).trans (engineStage_cells f.head _ _ _)

theorem handleWedge_engine (arrival : Nat) (f : WedgeRead) (bytes : Frame) (s : State) :
    (handleWedge arrival f bytes s).engine = (frameStage f (facts arrival f s) (learned arrival f s)).1.engine := by
  rw [handleWedge_eq]
  simp [classed]

theorem facts_locked {arrival : Nat} {f : WedgeRead} {s : State} (h : (facts arrival f s).clock.lockedOnTime = true) :
    s.clock.state = .locked := by
  simp only [facts, ruled, clockStage_result, contextFound, Laws.contextStage_frame, Bool.and_eq_true, beq_iff_eq] at h
  exact h.1

theorem handleWedge_cells (arrival : Nat) (f : WedgeRead) (bytes : Frame) (s : State) :
    CellsKept s.engine (handleWedge arrival f bytes s).engine ∨ s.clock.state = .locked := by
  rw [handleWedge_engine]
  have sampled := frameStage_sampled f (facts arrival f s) (learned arrival f s)
  generalize (frameStage f (facts arrival f s) (learned arrival f s)).1.engine = e at sampled ⊢
  cases sampled with
  | same => exact .inl (learned_cells arrival f s)
  | added ec locked => exact .inr (facts_locked locked)

theorem passWedge_cells (arrival : Nat) (f : WedgeRead) (bytes : Frame) (s : State) :
    CellsKept s.engine (passWedge arrival f bytes s).engine := by
  have foreign : (if s.settings.headCount ≤ f.head then bump .foreignHead s else s).engine = s.engine := by split <;> rfl
  unfold passWedge
  dsimp only
  generalize (if s.settings.headCount ≤ f.head then bump .foreignHead s else s) = u at foreign
  rw [← foreign]
  split
  · exact .inl (by simp)
  · simpa using ((clockStage_noticed arrival f u).cells.trans (planStage_cells f.head _ none _)).trans
      (engineStage_cells f.head _ false _)

theorem takeWedge_cells (arrival : Nat) (f : WedgeRead) (bytes : Frame) (s : State) :
    CellsKept s.engine (takeWedge arrival f bytes s).engine ∨ s.clock.state = .locked := by
  have closed := (closePast_noticed arrival Config.maxMisses s).cells
  unfold takeWedge
  dsimp only
  split
  · rcases handleWedge_cells arrival f bytes (closePast arrival Config.maxMisses s) with h | h
    · exact .inl (closed.trans h)
    · exact .inr (closePast_locked h)
  · exact .inl (closed.trans (passWedge_cells arrival f bytes _))

/-! ### Requests -/

theorem writeCell_noticed (o : Obj) (k : Nat) (v : Int) (s : State) : Noticed s.engine (writeCell o k v s).engine := by
  cases o with
  | setting => exact writeSetting_noticed k _ s
  | headrec | lintab | runout | defect | planstep | state | counter | alert => exact .inl rfl

theorem writeCells_noticed (o : Obj) (values : List Int) (k : Nat) (s : State) :
    Noticed s.engine (writeCells o k values s).engine := by
  induction values generalizing k s with
  | nil => exact .inl rfl
  | cons v values ih => exact (writeCell_noticed o k _ s).trans (ih (k + 1) _)

theorem stopPlan_engine (s : State) : (stopPlan s).engine = s.engine ∨ ∃ n, (stopPlan s).engine = unboundBy n s.engine := by
  unfold stopPlan
  split
  · exact .inr ⟨_, endStep_engine _ _ _⟩
  · exact .inl rfl

theorem waitTimerExpiry_engine (s : State) :
    (waitTimerExpiry s).engine = s.engine ∨ ∃ n, (waitTimerExpiry s).engine = unboundBy n s.engine := by
  unfold waitTimerExpiry
  split
  · exact .inr ⟨_, endStep_engine _ _ _⟩
  · exact .inl rfl

theorem cellsKept_of_unbound {e e' : Engine} (h : e' = e ∨ ∃ n, e' = unboundBy n e) : CellsKept e e' := by
  rcases h with rfl | ⟨n, rfl⟩
  · exact .inl rfl
  · exact unboundBy_cells n e

theorem addDefect_engine (h w : Nat) (s : State) : (addDefect h w s).1.engine = s.engine := by simp

theorem managed_cells {code : Nat} {m : Mgmt} {s t : State} (action : Managed code m s t) : CellsKept s.engine t.engine := by
  cases action with
  | written o => exact (writeCells_noticed o _ _ s).cells
  | stopped => exact cellsKept_of_unbound (stopPlan_engine s)
  | restarted => exact .inr rfl
  | _ => exact .inl (by simp)

/-- Settles O34. -/
theorem samplesComeOnlyUnderALockedClock : Obligations.SamplesComeOnlyUnderALockedClock := by
  intro c s t run
  have kept : ∀ {e : Engine}, CellsKept s.engine e → e.cells = s.engine.cells ∨ e.cells = [] ∨
      (s.clock.state = .locked ∧ ∃ bytes, frontFrame c = some bytes ∧ linkCheck .front bytes = none ∧ frameKind bytes = 0x21) :=
    fun h => h.elim .inl fun h => .inr (.inl h)
  cases effect_of_exec run with
  | wedge arrival bytes front taken kind =>
    rcases takeWedge_cells arrival (readWedge (wedgeFromBytes bytes)) bytes s with h | locked
    · exact kept h
    · exact .inr (.inr ⟨locked, bytes, front, taken, kind⟩)
  | powerOn => exact .inr (.inl rfl)
  | hold bytes =>
    have same : (takeHold (readHold (holdFromBytes bytes)) bytes s).engine = (readHoldFrame (readHold (holdFromBytes bytes)) s).engine := by
      simp [takeHold]
    rw [same]
    exact kept (readHoldFrame_noticed _ s).cells
  | request code object r => simpa using kept (managed_cells (actionOf_managed code (readRequest code object r) s))
  | missed => exact kept (declareMissed_noticed s).cells
  | idle => exact kept (idleExpiry_noticed s).cells
  | wait => exact kept (cellsKept_of_unbound (waitTimerExpiry_engine s))
  | _ => exact .inl (by simp)

/-! ### The entries of the bound head -/

theorem boundTo_iff {s : State} {h : Nat} : boundTo s h = true ↔ ∃ b, s.engine.binding = some b ∧ b.head = h := by
  unfold boundTo
  rcases s.engine.binding with _ | b <;> simp

/-- The accumulator is bound to one head (R78). -/
theorem boundTo_unique {s : State} {h k : Nat} (hh : boundTo s h = true) (hk : boundTo s k = true) : h = k := by
  obtain ⟨b, hb, rfl⟩ := boundTo_iff.mp hh
  obtain ⟨c, hc, rfl⟩ := boundTo_iff.mp hk
  rw [hb] at hc
  cases hc
  rfl

theorem find?_filter_index {α : Type} (p : Nat → Bool) (t : Table α) (k : Nat) :
    Table.find? (t.filter fun c => p c.1) k = if p k then Table.find? t k else none := by
  induction t with
  | nil => simp
  | cons c t ih =>
    obtain ⟨j, v⟩ := c
    rw [List.filter_cons, Laws.find?_cons]
    by_cases same : k = j
    · subst same
      cases kept : p k <;> simp [ih, kept]
    · split <;> simp [ih, same]

theorem runoutEntry_zeroRunout {h k w : Nat} (s : State) (hw : w < 512) :
    runoutEntry (zeroRunout k s) h w = if h = k then 0 else runoutEntry s h w := by
  have head : (h * 512 + w) / 512 = h := by omega
  unfold runoutEntry zeroRunout Table.get
  rw [find?_filter_index (fun j => j / Config.wedgeCells != k)]
  simp only [Config.wedgeCells, head]
  by_cases same : h = k <;> simp [same]

theorem handleWedge_runout (arrival : Nat) (f : WedgeRead) (bytes : Frame) (s : State) :
    (handleWedge arrival f bytes s).runout = (applyStage f.head f.index (ruled arrival f s).1).1.runout := by
  rw [handleWedge_eq]
  simp [classed, learned, planned, applied]

theorem ruled_noticed (arrival : Nat) (f : WedgeRead) (s : State) : Noticed s.engine (ruled arrival f s).1.engine :=
  (contextStage_noticed f.head s).trans (clockStage_noticed arrival f _)

/-- A frame that is no eligible index frame of the bound head, with a solve pending, writes no entry. -/
theorem takeWedge_runout {arrival : Nat} {f : WedgeRead} (bytes : Frame) {s : State}
    (other : s.engine.pass = .solve → boundTo s f.head = true → f.index = true → eligible s f.head f.wedge = false) :
    (takeWedge arrival f bytes s).runout = s.runout := by
  have closed := closePast_noticed arrival Config.maxMisses s
  have same : eligible (closePast arrival Config.maxMisses s) f.head f.wedge = eligible s f.head f.wedge := by
    simp [eligible, headRec]
  unfold takeWedge
  dsimp only
  split
  · next taken =>
    rw [same] at taken
    have noticed := closed.trans (ruled_noticed arrival f (closePast arrival Config.maxMisses s))
    rw [handleWedge_runout, Laws.applyStage_none]
    · simp [ruled, contextFound]
    · rw [boundTo_congr noticed.binding, Ne, noticed.solve]
      by_contra applies
      simp only [not_or, Bool.not_eq_false, not_not] at applies
      obtain ⟨index, bound, solve⟩ := applies
      rw [other solve bound index] at taken
      cases taken
  · simp

theorem runoutEntry_writeCell {o : Obj} {k : Nat} {v : Int} {u : State} {h w : Nat} (hw : w < 512) (bound : boundTo u h = true)
    (free : heldCell u o k = false) : runoutEntry (writeCell o k v u) h w = runoutEntry u h w := by
  by_cases runout : o = .runout
  · subst runout
    have other : h * 512 + w ≠ k := by
      rintro rfl
      have head : (h * 512 + w) / 512 = h := by omega
      simp [heldCell, Config.wedgeCells, head, bound] at free
    exact Laws.get_set_ne 0 u.runout v other
  · simp only [runoutEntry, (Writers.spared_writeCell o k v u).runout runout]

theorem writeCell_binding (o : Obj) (k : Nat) (v : Int) (s : State) :
    (writeCell o k v s).engine.binding = s.engine.binding := (writeCell_noticed o k v s).binding

/-- Settles O33. -/
theorem boundEntriesChangeOnlyByTheApply : Obligations.BoundEntriesChangeOnlyByTheApply := by
  intro c s t h w bound hw power pending run
  have same : ∀ {u : State}, u.runout = s.runout → runoutEntry u h w = runoutEntry s h w := fun e => by
    simp only [runoutEntry, e]
  cases effect_of_exec run with
  | powerOn e => exact absurd e power
  | wedge arrival bytes front taken kind =>
    refine same (takeWedge_runout bytes fun solve bound' index => ?_)
    have head := boundTo_unique bound' bound
    by_contra eligible
    exact pending solve ⟨bytes, front, taken, kind, index, head, head ▸ by simpa using eligible⟩
  | request code object r =>
    have action := actionOf_managed code (readRequest code object r) s
    have answered : ∀ m r u, runoutEntry (answer m r u) h w = runoutEntry u h w := fun m r u => by simp [runoutEntry]
    rw [answered]
    generalize (actionOf code (readRequest code object r) s).1 = u at action ⊢
    cases action with
    | written o _ _ accepted =>
      refine (written_keeps (P := fun u => boundTo u h = true ∧ runoutEntry u h w = runoutEntry s h w) accepted
        (fun k v u _ free _ hu => ⟨?_, ?_⟩) ⟨bound, rfl⟩).2
      · rw [boundTo_congr (writeCell_binding o k _ u)]
        exact hu.1
      · rw [runoutEntry_writeCell hw hu.1 free]
        exact hu.2
    | zeroed k _ _ free =>
      rw [runoutEntry_zeroRunout s hw, if_neg]
      rintro rfl
      rw [bound] at free
      cases free
    | restarted => rfl
    | _ => exact same (by simp)
  | _ => exact same (by simp)

end Sys2Proof.Samples
end

section
/-! PROOFS. Offset writes: the record an offset result and a mean fold leave (R45 to R47). -/

namespace Sys2Proof.Offsets

set_option Elab.async false

open Sys2Proof.Machine Sys2Proof.Safety Sys2Proof.Ranges

/-- The record of a head after a mean fold (R47). -/
def foldedRec (s : State) (h : Nat) (d : Int) : HeadRec :=
  if tracking s h then { headRec s h with offsetDiff := clampOffset ((headRec s h).offsetDiff + d), offsetValid := true }
  else { headRec s h with ownOffset := clampOffset ((headRec s h).ownOffset + d), offsetValid := true }

/-- The record of a head after an offset result (R46). -/
def measuredRec (s : State) (h : Nat) (v : Int) : HeadRec :=
  if tracking s h then
    { headRec s h with offsetDiff := clampOffset (v - (headRec s (headRec s h).refHead).ownOffset), offsetValid := true }
  else { headRec s h with ownOffset := clampOffset v, offsetValid := true }

theorem foldOffset_eq (h : Nat) (d : Int) (s : State) : foldOffset h d s = setHeadRec h (foldedRec s h d) s := by
  unfold foldOffset foldedRec
  dsimp only
  split <;> rfl

theorem writeMeasuredOffset_eq (h : Nat) (v : Int) (s : State) :
    writeMeasuredOffset h v s = setHeadRec h (measuredRec s h v) s := by
  unfold writeMeasuredOffset measuredRec
  dsimp only
  split <;> rfl

theorem tracking_congr {s t : State} (h : t.headRecs = s.headRecs) (k : Nat) : tracking t k = tracking s k := by
  simp only [tracking, headRec, h]

theorem foldedRec_congr {s t : State} (h : t.headRecs = s.headRecs) (k : Nat) (d : Int) : foldedRec t k d = foldedRec s k d := by
  simp only [foldedRec, tracking_congr h, headRec, h]

theorem measuredRec_congr {s t : State} (h : t.headRecs = s.headRecs) (k : Nat) (v : Int) :
    measuredRec t k v = measuredRec s k v := by
  simp only [measuredRec, tracking_congr h, headRec, h]

@[simp] theorem foldedRec_enabled (s : State) (h : Nat) (d : Int) : (foldedRec s h d).enabled = (headRec s h).enabled := by
  unfold foldedRec
  split <;> rfl

@[simp] theorem measuredRec_enabled (s : State) (h : Nat) (v : Int) : (measuredRec s h v).enabled = (headRec s h).enabled := by
  unfold measuredRec
  split <;> rfl

end Sys2Proof.Offsets
end

section
/-! PROOFS. Plan and learning in step (R79, R81, R85, R118 to R123, R132): every command keeps them so. -/

namespace Sys2Proof.PlanLaw

set_option Elab.async false

open Sys2Proof.Machine Sys2Proof.Safety Sys2Proof.Commands Sys2Proof.Actions Sys2Proof.Traffic Sys2Proof.ClockLaw
  Sys2Proof.Notices Sys2Proof.PlanSteps Sys2Proof.Contexts Sys2Proof.DefectTable
  Sys2Proof.Offsets

/-! ### The clauses, block by block -/

/-- The clauses on the plan alone. -/
structure RunHeld (steps : Table PlanStep) (p : Plan) : Prop where
  running : p.state = .running ↔ p.current.isSome = true
  sub : p.sub.isSome = p.current.isSome
  current : ∀ n, p.current = some n → n ≤ 31 ∧ (Table.get {} steps n).phase ≠ .none ∧ p.ended = n
  tallies : p.failed ≤ p.ended ∧ p.ended ≤ 32
  waiting : ∀ n, p.current = some n → p.sub = some .waiting →
    p.waitTimer = if (Table.get {} steps n).timeout = 0 then none else some (Table.get {} steps n).timeout
  cleared : p.sub = some .waiting → p.regs = {}
  noTimer : p.sub ≠ some .waiting → p.waitTimer = none

/-- The clauses on the engine's part in the plan. -/
structure BoundHeld (steps : Table PlanStep) (p : Plan) (e : Engine) : Prop where
  unbound : e.pass = .unbound ↔ e.binding = none
  bound : ∀ b, e.binding = some b →
    p.current = some b.step ∧ (Table.get {} steps b.step).phase = .learn ∧ (Table.get {} steps b.step).head = b.head
  accumulating : e.pass = .accumulate → p.sub = some .active

/-- Plan and engine in step, whatever the rest of the part says. -/
structure Core (s : State) : Prop where
  run : RunHeld s.steps s.plan
  bound : BoundHeld s.steps s.plan s.engine

/-- An ACTIVE step's conditions stand. -/
def Attended (s : State) : Prop :=
  ∀ n, s.plan.current = some n → s.plan.sub = some .active → Measuring s (planStep s n).head

theorem planHeld_iff {s : State} : PlanHeld s ↔ Core s ∧ Attended s :=
  ⟨fun h => ⟨⟨⟨h.running, h.sub, h.current, h.tallies, h.waiting, h.cleared, h.noTimer⟩, ⟨h.unbound, h.bound, h.accumulating⟩⟩,
      h.measuring⟩,
    fun ⟨⟨r, b⟩, m⟩ => ⟨r.running, r.sub, r.current, r.tallies, r.waiting, r.cleared, r.noTimer, m, b.unbound, b.bound,
      b.accumulating⟩⟩

theorem Core.congr {s t : State} (h : Core s) (steps : t.steps = s.steps) (plan : t.plan = s.plan) (engine : t.engine = s.engine) :
    Core t := ⟨by rw [steps, plan]; exact h.run, by rw [steps, plan, engine]; exact h.bound⟩

/-- With no ACTIVE step there is no condition to stand. -/
theorem attended_of_idle {s : State} (h : s.plan.sub ≠ some .active) : Attended s := fun _ _ active => absurd active h

/-- What the conditions read of the part. -/
theorem measuring_congr {s t : State} {h : Nat} (m : Measuring s h) (active : t.activeHead = s.activeHead)
    (clock : t.clock.state.running = s.clock.state.running) (context : headContext t h = headContext s h)
    (headCount : t.settings.headCount = s.settings.headCount) (enabled : (headRec t h).enabled = (headRec s h).enabled) :
    Measuring t h :=
  ⟨by rw [active]; exact m.active, by rw [clock]; exact m.clock, by rw [context]; exact m.target,
    by rw [context]; exact m.seeking, by rw [context]; exact m.settle, by rw [context]; exact m.steady,
    by rw [headCount]; exact m.headCount, by rw [enabled]; exact m.enabled⟩

theorem Attended.congr {s t : State} (h : Attended s) (steps : t.steps = s.steps) (plan : t.plan = s.plan)
    (measuring : ∀ k, Measuring s k → Measuring t k) : Attended t := by
  intro n current active
  rw [plan] at current active
  have same : planStep t n = planStep s n := by simp only [planStep, steps]
  rw [same]
  exact measuring _ (h n current active)

/-! ### Notices -/

theorem waitTimerOf_eq (t : Nat) : waitTimerOf t = if t = 0 then none else some t := rfl

theorem RunHeld.returned {steps : Table PlanStep} {p : Plan} (h : RunHeld steps p) : RunHeld steps (returned steps p) := by
  unfold Notices.returned
  split
  · next n current active =>
    refine ⟨h.running, ?_, h.current, h.tallies, fun m hm _ => ?_, fun _ => rfl, fun idle => absurd rfl idle⟩
    · simp [current]
    · rw [show m = n from Option.some.inj (hm.symm.trans current)]
      rfl
  · exact h

theorem returned_idle {steps : Table PlanStep} {p : Plan} (h : RunHeld steps p) :
    (returned steps p).sub ≠ some .active := by
  unfold Notices.returned
  split
  · exact fun e => by cases e
  · next none =>
    intro active
    have some := h.sub
    rw [active] at some
    obtain ⟨n, current⟩ := Option.isSome_iff_exists.mp some.symm
    exact none n current active

theorem BoundHeld.returned {steps : Table PlanStep} {p : Plan} {e : Engine} (h : BoundHeld steps p e)
    (idle : e.pass ≠ .accumulate) : BoundHeld steps (returned steps p) e :=
  ⟨h.unbound, by simpa using h.bound, fun e => absurd e idle⟩

theorem BoundHeld.discarded {steps : Table PlanStep} {p : Plan} {e : Engine} (h : BoundHeld steps p e) :
    BoundHeld steps p (discarded e) := by
  unfold Notices.discarded
  split
  · next accumulate =>
    refine ⟨Iff.intro (fun e => by cases e) (fun none => ?_), h.bound, fun e => by cases e⟩
    rw [h.unbound.mpr none] at accumulate
    cases accumulate
  · exact h

/-- A notice from the clock reaches both (R73). -/
theorem Core.noticed {s t : State} (h : Core s) (steps : t.steps = s.steps) (plan : t.plan = returned s.steps s.plan)
    (engine : t.engine = discarded s.engine) : Core t ∧ t.plan.sub ≠ some .active := by
  refine ⟨⟨by rw [steps, plan]; exact h.run.returned, ?_⟩, by rw [plan]; exact returned_idle h.run⟩
  rw [steps, plan, engine]
  exact h.bound.discarded.returned (discarded_pass _)

/-- The engine is bound to the current step's head. -/
theorem Core.stepHead_of_bound {s : State} (h : Core s) {k : Nat} (bound : boundTo s k = true) : stepHead s = some k := by
  obtain ⟨b, hb, rfl⟩ := Samples.boundTo_iff.mp bound
  obtain ⟨current, -, head⟩ := h.bound.bound b hb
  simp only [stepHead, current, Option.map_some, planStep, head]

/-- A notice from a head reaches both or neither (R85, R122). -/
theorem Core.headNoticed {s t : State} (h : Core s) {k : Nat} (steps : t.steps = s.steps)
    (plan : t.plan = if stepHead s = some k then returned s.steps s.plan else s.plan)
    (engine : t.engine = if boundTo s k then discarded s.engine else s.engine) :
    Core t ∧ (stepHead s = some k → t.plan.sub ≠ some .active) ∧ (stepHead s ≠ some k → t.plan = s.plan ∧ t.engine = s.engine) := by
  by_cases head : stepHead s = some k
  · rw [if_pos head] at plan
    have idle : t.plan.sub ≠ some .active := by rw [plan]; exact returned_idle h.run
    refine ⟨⟨by rw [steps, plan]; exact h.run.returned, ?_⟩, fun _ => idle, fun other => absurd head other⟩
    rw [steps, plan, engine]
    split
    · exact h.bound.discarded.returned (discarded_pass _)
    · next free =>
      refine h.bound.returned fun accumulate => ?_
      have bound : s.engine.binding ≠ none := fun none => by
        rw [h.bound.unbound.mpr none] at accumulate
        cases accumulate
      obtain ⟨b, hb⟩ := Option.ne_none_iff_exists'.mp bound
      have same := h.stepHead_of_bound (Samples.boundTo_iff.mpr ⟨b, hb, rfl⟩)
      rw [head] at same
      exact free (Samples.boundTo_iff.mpr ⟨b, hb, (Option.some.inj same).symm⟩)
  · have free : ¬boundTo s k = true := fun bound => head (h.stepHead_of_bound bound)
    rw [if_neg head] at plan
    rw [if_neg free] at engine
    exact ⟨h.congr steps plan engine, fun e => absurd e head, fun _ => ⟨plan, engine⟩⟩

/-! ### Stages 1 and 2 -/

section
variable {s : State}

theorem planHeld_contextStage (h : PlanHeld s) (k : Nat) : PlanHeld (contextStage k s).1 := by
  obtain ⟨core, attended⟩ := planHeld_iff.mp h
  have frame : (contextStage k s).1.plan = (headSwitch k s).plan ∧ (contextStage k s).1.engine = (headSwitch k s).engine := by
    simp [contextStage]
  have unattended : s.activeHead ≠ some k → ∀ n, s.plan.current = some n → s.plan.sub = some .active →
      s.activeHead = some (planStep s n).head := fun _ n current active => (attended n current active).active
  rw [planHeld_iff]
  rcases active : s.activeHead with _ | a
  · obtain ⟨engine, plan, -⟩ := headSwitch_first (h := k) active
    refine ⟨core.congr (by simp) (frame.1.trans plan) (frame.2.trans engine), fun n current sub => ?_⟩
    rw [frame.1, plan] at current sub
    have := (attended n current sub).active
    rw [active] at this
    cases this
  · by_cases same : a = k
    · subst same
      have switch : headSwitch a s = s := headSwitch_same active
      have stage : (contextStage a s).1 = countSettle a s := by simp only [contextStage, switch]
      rw [stage]
      refine ⟨core.congr (by simp) (by simp) (by simp), attended.congr (by simp) (by simp) fun j m => ?_⟩
      by_cases own : j = a
      · subst own
        refine ⟨by simp [m.active], by simp [m.clock], ?_, ?_, ?_, ?_, by simp [m.headCount], ?_⟩
        · simp [countSettle, m.target]
        · simp [countSettle, m.seeking]
        · simp [countSettle, m.settle]
        · simp [countSettle, m.steady]
        · simpa [headRec] using m.enabled
      · exact measuring_congr m (by simp) (by simp) (by simp [countSettle, own]) (by simp) (by simp [headRec])
    · obtain ⟨engine, plan⟩ := headSwitch_away active same
      obtain ⟨core', idle, other⟩ := core.headNoticed (t := (contextStage k s).1) (by simp) (frame.1.trans plan) (frame.2.trans engine)
      refine ⟨core', fun n current sub => ?_⟩
      by_cases head : stepHead s = some a
      · exact absurd sub (idle head)
      · obtain ⟨plan, -⟩ := other head
        rw [plan] at current sub
        have := (attended n current sub).active
        rw [active] at this
        exact absurd (by simp [stepHead, current, this]) head

theorem planHeld_clockStage (h : PlanHeld s) (arrival : Nat) (f : WedgeRead) :
    PlanHeld (clockStage arrival f.head f.wedge f.index s).1 := by
  obtain ⟨core, attended⟩ := planHeld_iff.mp h
  have engine := clockStage_engine arrival f s
  have plan := clockStage_plan arrival f s
  rw [planHeld_iff]
  by_cases slip : rulingOn arrival f s = .slip
  · rw [if_pos slip] at engine plan
    obtain ⟨core, idle⟩ := core.noticed (by simp) plan engine
    exact ⟨core, attended_of_idle idle⟩
  · rw [if_neg slip] at engine plan
    refine ⟨core.congr (by simp) plan engine, attended.congr (by simp) plan fun k m => ?_⟩
    exact measuring_congr m (by simp) ((clockStage_running m.clock slip).trans m.clock.symm) (by simp [headContext]) (by simp)
      (by simp [headRec])

/-- A departure from LOCKED or COASTING, and where the clock stood still nothing. -/
theorem planHeld_departed (h : PlanHeld s) {t : State} (steps : t.steps = s.steps) (plan : t.plan = (departure s).plan)
    (engine : t.engine = (departure s).engine) : PlanHeld t := by
  obtain ⟨core, attended⟩ := planHeld_iff.mp h
  rw [departure_plan] at plan
  rw [departure_engine] at engine
  rw [planHeld_iff]
  split at plan
  · next running =>
    rw [if_pos running] at engine
    obtain ⟨core, idle⟩ := core.noticed steps plan engine
    exact ⟨core, attended_of_idle idle⟩
  · next stopped =>
    rw [if_neg stopped] at engine
    refine ⟨core.congr steps plan engine, fun n current active => ?_⟩
    rw [plan] at current active
    exact absurd (attended n current active).clock stopped

/-- What reaches neither plan nor engine, and leaves the conditions of a step. -/
theorem planHeld_congr (h : PlanHeld s) {t : State} (steps : t.steps = s.steps) (plan : t.plan = s.plan)
    (engine : t.engine = s.engine) (measuring : ∀ k, Measuring s k → Measuring t k) : PlanHeld t := by
  obtain ⟨core, attended⟩ := planHeld_iff.mp h
  exact planHeld_iff.mpr ⟨core.congr steps plan engine, attended.congr steps plan measuring⟩

theorem planHeld_missedOnce (h : PlanHeld s) (e : Expectation) : PlanHeld (missedOnce e s) :=
  planHeld_congr h (by simp) (by simp) (by simp) fun k m =>
    measuring_congr m (by simp) (by simp [missedClock_running]) (by simp [headContext]) (by simp) (by simp [headRec])

theorem planHeld_declareMissed (h : PlanHeld s) : PlanHeld (declareMissed s) := by
  rcases expected : s.clock.expected with _ | e
  · rwa [declareMissed_none expected]
  · rw [declareMissed_some expected]
    split
    · exact planHeld_departed (planHeld_missedOnce h e) (by simp) (loseClock_plan 1 _) (loseClock_engine 1 _)
    · exact planHeld_missedOnce h e

theorem planHeld_closePast (h : PlanHeld s) (now fuel : Nat) : PlanHeld (closePast now fuel s) := by
  induction fuel generalizing s with
  | zero => exact h
  | succ fuel ih =>
    unfold closePast
    split
    · exact ih (planHeld_declareMissed h)
    · exact h

theorem planHeld_idleExpiry (h : PlanHeld s) : PlanHeld (idleExpiry s) := by
  unfold idleExpiry
  split
  · exact planHeld_departed h (by simp) (loseClock_plan 2 _) (loseClock_engine 2 _)
  · exact h
end

/-! ### Stage 3 -/

section
variable {s : State}

/-- What the apply leaves of engine, plan and records (R89, R90, R130). -/
theorem applySolve_leaves {b : Binding} {p : PassParams} {v : PendingSolve} (hb : s.engine.binding = some b)
    (hp : s.engine.params = some p) (hv : s.engine.pendingSolve = some v) :
    (applySolve s).1.engine = { s.engine with
        pendingSolve := none
        pass := .ready
        passNumber := if afterApply p s.engine.passNumber v = .further then s.engine.passNumber + 1 else s.engine.passNumber
        revs := 0 } ∧
      (applySolve s).1.plan = { s.plan with tallies :=
        { applied := s.plan.tallies.applied + 1
          largest := v.largest
          foldTotal := s.plan.tallies.foldTotal + v.meanFold } } ∧
      (applySolve s).1.headRecs =
        if p.fold then Table.set {} s.headRecs b.head (foldedRec s b.head v.meanFold) else s.headRecs := by
  have folded : foldedRec (writeEntries b.head v.entries s) b.head v.meanFold = foldedRec s b.head v.meanFold :=
    foldedRec_congr rfl _ _
  simp only [applySolve, hb, hp, hv, foldOffset_eq, folded]
  refine ⟨rfl, ?_, ?_⟩
  · cases p.fold <;> simp [tallyApply]
  · cases p.fold <;> simp [tallyApply]

theorem applyStage_other {h : Nat} {index : Bool} (none : s.engine.binding = none ∨ s.engine.params = none ∨ s.engine.pendingSolve = none) :
    (applyStage h index s).1 = s := by
  unfold applyStage applySolve
  split
  · split
    · next hb hp hv => simp [hb, hp, hv] at none
    · rfl
  · rfl

theorem planHeld_applyStage (h : PlanHeld s) (k : Nat) (index : Bool) : PlanHeld (applyStage k index s).1 := by
  rcases hb : s.engine.binding with _ | b
  · rwa [applyStage_other (.inl hb)]
  rcases hp : s.engine.params with _ | p
  · rwa [applyStage_other (.inr (.inl hp))]
  rcases hv : s.engine.pendingSolve with _ | v
  · rwa [applyStage_other (.inr (.inr hv))]
  unfold applyStage
  split
  · obtain ⟨engine, plan, headRecs⟩ := applySolve_leaves hb hp hv
    have enabled : ∀ j, (headRec (applySolve s).1 j).enabled = (headRec s j).enabled := by
      intro j
      unfold headRec
      rw [headRecs]
      split
      · rw [Laws.get_set]
        split
        · next same => simp [same, headRec]
        · rfl
      · rfl
    have steps : (applySolve s).1.steps = s.steps := by simp
    obtain ⟨core, attended⟩ := planHeld_iff.mp h
    refine planHeld_iff.mpr ⟨⟨?_, ?_⟩, fun n current active => ?_⟩
    · rw [plan, steps]
      exact { core.run with }
    · rw [plan, steps, engine]
      refine ⟨⟨fun e => (by cases e), fun e => ?_⟩, core.bound.bound, fun e => by cases e⟩
      rw [show s.engine.binding = none from e] at hb
      cases hb
    · rw [plan] at current active
      have same : planStep (applySolve s).1 n = planStep s n := by simp only [planStep, steps]
      rw [same]
      exact measuring_congr (attended n current active) (by simp) (by simp) (by simp [headContext]) (by simp) (enabled _)
  · exact h

/-! ### Stage 4 -/

/-- After the end of the current step neither plan nor engine holds it. -/
theorem Core.ended (h : Core s) {n : Nat} (current : s.plan.current = some n) (o : StepOutcome) :
    Core (endStep n o s) ∧ (endStep n o s).plan.sub ≠ some .active := by
  obtain ⟨small, -, ended⟩ := h.run.current n current
  have tallies := h.run.tallies.1
  have failed : (if o.failure = true then s.plan.failed + 1 else s.plan.failed) ≤ s.plan.ended + 1 := by split <;> omega
  have state : s.plan.state = .running := h.run.running.mpr (by rw [current]; rfl)
  have steps : (endStep n o s).steps = s.steps := by simp
  have free : (unboundBy n s.engine).binding = none ∧ (unboundBy n s.engine).pass = .unbound := by
    unfold unboundBy
    rcases hb : s.engine.binding with _ | b
    · exact ⟨hb, h.bound.unbound.mpr hb⟩
    · obtain ⟨step, -⟩ := h.bound.bound b hb
      simp [Option.some.inj (step.symm.trans current)]
  have bound : ∀ p, BoundHeld s.steps p (endStep n o s).engine := fun p => by
    rw [endStep_engine]
    refine ⟨by simp [free], fun b hb => ?_, fun e => ?_⟩
    · rw [free.1] at hb
      cases hb
    · rw [free.2] at e
      cases e
  by_cases ends : EndsPlan s.steps n o
  · have plan := endStep_plan_ends ends
    refine ⟨⟨?_, by rw [steps]; exact bound _⟩, by rw [plan]; exact fun e => by cases e⟩
    rw [steps, plan]
    constructor <;> simp [endedPlan, talliedPlan]
    exact ⟨failed, by omega⟩
  · have plan := endStep_plan_next ends
    refine ⟨⟨?_, by rw [steps]; exact bound _⟩, by rw [plan]; exact fun e => by cases e⟩
    simp only [EndsPlan, not_or] at ends
    obtain ⟨-, -, last, phase⟩ := ends
    rw [steps, plan]
    constructor <;> simp [enteredPlan, talliedPlan, state, ended, phase, waitTimerOf_eq]
    · omega
    · exact ⟨by omega, by omega⟩

theorem RunHeld.counted {steps : Table PlanStep} {p : Plan} (h : RunHeld steps p) (active : p.sub = some .active) (r : Registers) :
    RunHeld steps { p with regs := r } :=
  ⟨h.running, h.sub, h.current, h.tallies, h.waiting,
    fun e => absurd ((show p.sub = some .waiting from e).symm.trans active) (by decide), h.noTimer⟩

theorem Core.counted (h : Core s) (active : s.plan.sub = some .active) (r : Registers) :
    Core (setPlan { s.plan with regs := r } s) :=
  ⟨h.run.counted active r, ⟨h.bound.unbound, h.bound.bound, h.bound.accumulating⟩⟩

theorem planHeld_closed (h : PlanHeld s) {k : Nat} {t : State} (closed : Closed k s t) : PlanHeld t := by
  obtain ⟨core, attended⟩ := planHeld_iff.mp h
  cases closed with
  | same => exact h
  | counted n r current active =>
    refine planHeld_iff.mpr ⟨core.counted active r, fun m hm hs => ?_⟩
    exact measuring_congr (attended m hm hs) rfl rfl rfl rfl rfl
  | ended n r o current active =>
    obtain ⟨core, idle⟩ := (core.counted active r).ended current o
    exact planHeld_iff.mpr ⟨core, attended_of_idle idle⟩
  | written n r v current active =>
    have written : Core (writeMeasuredOffset k v (setPlan { s.plan with regs := r } s)) :=
      (core.counted active r).congr (by simp) (by simp) (by simp)
    obtain ⟨core, idle⟩ := written.ended (by simpa using current) .passed
    exact planHeld_iff.mpr ⟨core, attended_of_idle idle⟩

theorem planHeld_tryActivate (h : PlanHeld s) (k : Nat) : PlanHeld (tryActivate k s) := by
  rcases Laws.tryActivate_cases k s with ⟨waiting, holds, e⟩ | ⟨-, e⟩ <;> rw [e]
  · obtain ⟨core, -⟩ := planHeld_iff.mp h
    have bound := core.bound
    simp only [activationHolds, Bool.and_eq_true, beq_iff_eq, Bool.not_eq_true', decide_eq_true_eq] at holds
    obtain ⟨⟨⟨⟨⟨⟨⟨⟨head, active⟩, locked⟩, target⟩, seeking⟩, settle⟩, steady⟩, headCount⟩, enabled⟩ := holds
    refine planHeld_iff.mpr ⟨⟨⟨core.run.running, ?_, core.run.current, core.run.tallies, ?_, ?_, ?_⟩,
      bound.unbound, bound.bound, fun _ => rfl⟩, fun n current _ => ?_⟩
    · have some := core.run.sub
      rw [waiting] at some
      exact some
    · exact fun _ _ e => by cases e
    · exact fun e => by cases e
    · exact fun _ => rfl
    · have same : (planStep s n).head = k := by
        simpa [stepHead, show s.plan.current = some n from current] using head
      have measuring : Measuring s k := ⟨active, by rw [locked]; rfl, target, seeking, settle, steady, headCount, enabled⟩
      exact same ▸ measuring_congr measuring rfl rfl rfl rfl rfl
  · exact h

theorem planHeld_planStage (h : PlanHeld s) (k : Nat) (event : Bool) (after : Option AfterApply) :
    PlanHeld (planStage k event after s) := by
  have closed : PlanHeld (closeStage k event after s) := by
    rcases closeStage_cases k event after s with ⟨n, o, current, -, e⟩ | closed
    · rw [e]
      obtain ⟨core, idle⟩ := (planHeld_iff.mp h).1.ended current o
      exact planHeld_iff.mpr ⟨core, attended_of_idle idle⟩
    · exact planHeld_closed h closed
  rw [planStage_eq]
  split
  · exact planHeld_tryActivate closed k
  · exact closed

/-! ### Stage 5 -/

theorem activeLearnStep_some {k n : Nat} (h : activeLearnStep s k = some n) :
    s.plan.current = some n ∧ s.plan.sub = some .active ∧ (planStep s n).phase = .learn ∧ (planStep s n).head = k := by
  unfold activeLearnStep at h
  split at h
  · next m current active =>
    split at h
    · next learn =>
      cases h
      exact ⟨current, active, learn⟩
    · cases h
  · cases h

theorem countPassRevolution_fields (s : State) :
    (countPassRevolution s).engine.binding = s.engine.binding ∧
      ((countPassRevolution s).engine.pass = s.engine.pass ∨ (countPassRevolution s).engine.pass = .solve) := by
  unfold countPassRevolution
  split
  · dsimp only
    split
    · exact ⟨rfl, .inr rfl⟩
    · exact ⟨rfl, .inl rfl⟩
  · exact ⟨rfl, .inl rfl⟩

/-- A pass begins for the current ACTIVE LEARN step (R79, R81). -/
theorem boundHeld_begin (core : Core s) {k n : Nat} (learn : activeLearnStep s k = some n) :
    BoundHeld s.steps s.plan (beginPass k n s).engine := by
  obtain ⟨current, active, phase, head⟩ := activeLearnStep_some learn
  obtain ⟨pass, -, -, binding, -⟩ := Laws.beginPass_engine k n s
  refine ⟨?_, fun b hb => ?_, fun _ => active⟩
  · rw [pass, binding]
    refine Iff.intro (fun e => by cases e) (fun e => ?_)
    split at e
    · cases e
    · next bound => exact absurd (core.bound.unbound.mpr e) bound
  · rw [binding] at hb
    split at hb
    · cases hb
      exact ⟨current, phase, head⟩
    · exact core.bound.bound b hb

theorem boundHeld_engineStage (core : Core s) (k : Nat) (event further : Bool) :
    BoundHeld s.steps s.plan (engineStage k event further s).engine := by
  have bound := core.bound
  unfold engineStage
  split
  · next accumulate =>
    split
    · obtain ⟨binding, pass⟩ := countPassRevolution_fields s
      have unbound : s.engine.binding ≠ none := fun none => by
        rw [bound.unbound.mpr none] at accumulate
        cases accumulate
      refine ⟨?_, by rw [binding]; exact bound.bound, fun _ => bound.accumulating accumulate⟩
      rw [binding]
      rcases pass with e | e <;> rw [e]
      · exact bound.unbound
      · exact Iff.intro (fun e => by cases e) (fun none => absurd none unbound)
    · exact bound
  · exact bound
  all_goals
    split
    · split
      · next learn => exact boundHeld_begin core learn
      · exact bound
    · exact bound

theorem planHeld_engineStage (h : PlanHeld s) (k : Nat) (event further : Bool) : PlanHeld (engineStage k event further s) := by
  obtain ⟨core, attended⟩ := planHeld_iff.mp h
  refine planHeld_iff.mpr ⟨⟨by simpa using core.run, by simpa using boundHeld_engineStage core k event further⟩, ?_⟩
  exact attended.congr (by simp) (by simp) fun j m =>
    measuring_congr m (by simp) (by simp) (by simp [headContext]) (by simp) (by simp [headRec])

/-! ### Stage 6 -/

/-- Two contexts that say the same about a step's conditions. -/
def SameTarget (c d : HeadContext) : Prop :=
  d.targetValid = c.targetValid ∧ d.seeking = c.seeking ∧ d.settle = c.settle ∧ d.retargeted = c.retargeted

/-- A demodulated frame leaves target, seek and settle count of every head. -/
theorem demodulatedStage_target (f : WedgeRead) (k : FrameFacts) (ec : Int) (s : State) (j : Nat) :
    SameTarget (headContext s j) (headContext (demodulatedStage f k ec s).1 j) := by
  have stored : SameTarget (headContext s j) (headContext (storeDemodulated ec f s) j) := by
    unfold headContext
    rw [storeDemodulated_contexts, Laws.get_set]
    split
    · next same => subst same; exact ⟨rfl, rfl, rfl, rfl⟩
    · exact ⟨rfl, rfl, rfl, rfl⟩
  unfold headContext
  rw [demodulatedStage_contexts]
  split
  · exact stored
  · rw [monitorCount_contexts, Laws.get_set]
    split
    · next same => subst same; exact stored
    · exact stored

theorem frameStage_target (f : WedgeRead) (k : FrameFacts) (s : State) (j : Nat) :
    SameTarget (headContext s j) (headContext (frameStage f k s).1 j) := by
  have demodulated := fun ec => demodulatedStage_target f k ec s j
  unfold headContext at demodulated ⊢
  rw [frameStage_contexts]
  split
  · exact ⟨rfl, rfl, rfl, rfl⟩
  · exact demodulated _

/-- Stage 6 reaches the plan by the registers of an ACTIVE step alone (R115, R127). -/
def Watched (p p' : Plan) : Prop := p' = p ∨ p.sub = some .active ∧ ∃ r, p' = { p with regs := r }

theorem Watched.trans {p₁ p₂ p₃ : Plan} (h₁ : Watched p₁ p₂) (h₂ : Watched p₂ p₃) : Watched p₁ p₃ := by
  rcases h₁ with rfl | ⟨active, r, rfl⟩
  · exact h₂
  · rcases h₂ with rfl | ⟨-, r', rfl⟩
    · exact .inr ⟨active, r, rfl⟩
    · exact .inr ⟨active, r', rfl⟩

theorem contribute_watched (c : Contribution) (s : State) : Watched s.plan (contribute c s).plan := by
  unfold contribute
  split
  · next active =>
    dsimp only
    split
    · split
      · split
        · exact .inr ⟨active, _, rfl⟩
        · exact .inl rfl
      · split
        · exact .inr ⟨active, _, rfl⟩
        · exact .inl rfl
      all_goals exact .inl rfl
    · exact .inl rfl
  · exact .inl rfl

theorem settleWatch_watched (h : Nat) (tripped trip : Bool) (s : State) : Watched s.plan (settleWatch h tripped trip s).plan := by
  unfold settleWatch
  split
  · next active =>
    dsimp only
    split
    · exact .inr ⟨active, _, rfl⟩
    · exact .inl rfl
  · exact .inl rfl

theorem demodulatedStage_watched (f : WedgeRead) (k : FrameFacts) (ec : Int) (s : State) :
    Watched s.plan (demodulatedStage f k ec s).1.plan := by
  have contributed : ∀ (c : Contribution) (u : State), u.plan = s.plan → Watched s.plan (contribute c u).plan :=
    fun c u same => same ▸ contribute_watched c u
  unfold demodulatedStage
  split <;> exact contributed _ _ (by simp)

theorem frameStage_watched (f : WedgeRead) (k : FrameFacts) (s : State) : Watched s.plan (frameStage f k s).1.plan := by
  unfold frameStage
  dsimp only
  split
  · have same : (heldStage f (faulty (headRec s f.head).burstFloor f) s).plan = s.plan := by simp
    rw [← same]
    exact settleWatch_watched _ _ _ _
  · exact (demodulatedStage_watched f k _ s).trans (settleWatch_watched _ _ _ _)

theorem planHeld_frameStage (h : PlanHeld s) (f : WedgeRead) (k : FrameFacts) : PlanHeld (frameStage f k s).1 := by
  obtain ⟨core, attended⟩ := planHeld_iff.mp h
  have sampled := Samples.frameStage_sampled f k s
  have steps : (frameStage f k s).1.steps = s.steps := by simp
  have engine : (frameStage f k s).1.engine.binding = s.engine.binding ∧ (frameStage f k s).1.engine.pass = s.engine.pass := by
    generalize (frameStage f k s).1.engine = e at sampled ⊢
    cases sampled <;> exact ⟨rfl, rfl⟩
  have sub : (frameStage f k s).1.plan.sub = s.plan.sub ∧ (frameStage f k s).1.plan.current = s.plan.current := by
    rcases frameStage_watched f k s with e | ⟨-, r, e⟩ <;> rw [e] <;> exact ⟨rfl, rfl⟩
  refine planHeld_iff.mpr ⟨⟨?_, ?_⟩, fun n current active => ?_⟩
  · rw [steps]
    rcases frameStage_watched f k s with e | ⟨active, r, e⟩ <;> rw [e]
    · exact core.run
    · exact core.run.counted active r
  · rw [steps]
    refine ⟨by rw [engine.1, engine.2]; exact core.bound.unbound, fun b hb => ?_, fun e => ?_⟩
    · rw [engine.1] at hb
      rw [sub.2]
      exact core.bound.bound b hb
    · rw [engine.2] at e
      rw [sub.1]
      exact core.bound.accumulating e
  · rw [sub.1] at active
    rw [sub.2] at current
    have m := attended n current active
    obtain ⟨target, seeking, settle, steady⟩ := frameStage_target f k s (planStep s n).head
    have same : planStep (frameStage f k s).1 n = planStep s n := by simp only [planStep, steps]
    rw [same]
    exact ⟨by simpa using m.active, by simpa using m.clock, by rw [target]; exact m.target, by rw [seeking]; exact m.seeking,
      by rw [settle]; exact m.settle, by rw [steady]; exact m.steady, by simpa using m.headCount,
      by simpa [headRec] using m.enabled⟩

/-! ### WEDGE and HOLD frames -/

theorem planHeld_handleWedge (h : PlanHeld s) (arrival : Nat) (f : WedgeRead) (bytes : Frame) :
    PlanHeld (handleWedge arrival f bytes s) := by
  have ruled : PlanHeld (ruled arrival f s).1 := planHeld_clockStage (planHeld_contextStage h f.head) arrival f
  have planned : PlanHeld (planned arrival f s) := planHeld_planStage (planHeld_applyStage ruled f.head f.index) _ _ _
  have classed : PlanHeld (classed arrival f s).1 := planHeld_frameStage (planHeld_engineStage planned f.head _ _) f _
  rw [handleWedge_eq]
  refine planHeld_congr classed (by simp) (by simp) (by simp) fun k m => ?_
  by_cases own : k = f.head
  · subst own
    have context : ∀ u p, headContext (forward bytes p (passTargetChange f.head u)) f.head =
        { headContext u f.head with retargeted := false } := fun u p => by
      have forwarded : headContext (forward bytes p (passTargetChange f.head u)) f.head =
          headContext (passTargetChange f.head u) f.head := by simp only [headContext, Laws.forward_frame]
      rw [forwarded, Laws.headContext_passTargetChange, if_pos rfl]
    exact ⟨by simpa using m.active, by simpa using m.clock, by rw [context]; exact m.target, by rw [context]; exact m.seeking,
      by rw [context]; exact m.settle, by rw [context], by simpa using m.headCount, by simpa [headRec] using m.enabled⟩
  · refine measuring_congr m (by simp) (by simp) ?_ (by simp) (by simp [headRec])
    simp only [headContext, Laws.forward_frame]
    exact (Laws.headContext_passTargetChange f.head k _).trans (if_neg own)

theorem planHeld_passWedge (h : PlanHeld s) (arrival : Nat) (f : WedgeRead) (bytes : Frame) :
    PlanHeld (passWedge arrival f bytes s) := by
  have counted : ∀ (c : Counter) {u : State}, PlanHeld u → PlanHeld (bump c u) := fun c u h =>
    planHeld_congr h rfl rfl rfl fun k m => measuring_congr m rfl rfl rfl rfl rfl
  have offered : ∀ {u : State}, PlanHeld u → PlanHeld (offerLoop bytes u) := fun h =>
    planHeld_congr h (by simp) (by simp) (by simp) fun k m =>
      measuring_congr m (by simp) (by simp) (by simp [headContext]) (by simp) (by simp [headRec])
  have foreign : PlanHeld (if s.settings.headCount ≤ f.head then bump .foreignHead s else s) := by
    split
    · exact counted _ h
    · exact h
  unfold passWedge
  dsimp only
  split
  · exact offered (counted _ foreign)
  · exact offered (planHeld_engineStage (planHeld_planStage (planHeld_clockStage foreign arrival f) f.head _ _) f.head _ _)

theorem planHeld_takeWedge (h : PlanHeld s) (arrival : Nat) (f : WedgeRead) (bytes : Frame) :
    PlanHeld (takeWedge arrival f bytes s) := by
  have closed := planHeld_closePast h arrival Config.maxMisses
  unfold takeWedge
  dsimp only
  split
  · exact planHeld_handleWedge closed arrival f bytes
  · exact planHeld_passWedge closed arrival f bytes

/-- A HOLD that gives no notice repeats the target of a head that does not seek (R53, R54). -/
theorem planHeld_readHoldFrame (h : PlanHeld s) (f : HoldRead) : PlanHeld (readHoldFrame f s) := by
  obtain ⟨core, attended⟩ := planHeld_iff.mp h
  unfold readHoldFrame
  dsimp only
  split
  · generalize hu : setHeadContext f.head (holdContext s.settings.switchSettle f (headContext s f.head)) s = u
    have plan : u.plan = s.plan := by subst hu; rfl
    have engine : u.engine = s.engine := by subst hu; rfl
    have steps : u.steps = s.steps := by subst hu; rfl
    have other : ∀ k, k ≠ f.head → Measuring s k → Measuring u k := fun k own m => by
      subst hu
      exact measuring_congr m rfl rfl (by simp [own]) rfl rfl
    split
    · obtain ⟨core', idle, away⟩ := (core.congr steps plan engine).headNoticed (t := headNotice f.head u) (k := f.head) (by simp) (by simp) (by simp)
      refine planHeld_iff.mpr ⟨core', fun n current active => ?_⟩
      by_cases head : stepHead u = some f.head
      · exact absurd active (idle head)
      · obtain ⟨same, -⟩ := away head
        rw [same, plan] at current active
        have own : (planStep s n).head ≠ f.head := fun e => head (by
          rw [stepHead_congr (by rw [plan]) steps, stepHead, current, Option.map_some, e])
        have m := other _ own (attended n current active)
        have step : planStep (headNotice f.head u) n = planStep s n := by simp [planStep, steps]
        rw [step]
        exact measuring_congr m (by simp) (by simp) (by simp [headContext]) (by simp) (by simp [headRec])
    · next quiet =>
      simp only [Bool.or_eq_true, not_or, Bool.not_eq_true] at quiet
      obtain ⟨seek, same⟩ := quiet
      refine planHeld_congr h steps plan engine fun k m => ?_
      by_cases own : k = f.head
      · subst own
        subst hu
        refine ⟨m.active, m.clock, ?_, ?_, ?_, ?_, m.headCount, m.enabled⟩ <;>
          simp [holdContext, seek, same, m.seeking, m.settle, m.steady]
      · exact other k own m
  · exact h

/-! ### Requests and events -/

theorem planHeld_startPlan (h : PlanHeld s) (idle : s.plan.state ≠ .running) : PlanHeld (startPlan s) := by
  obtain ⟨core, attended⟩ := planHeld_iff.mp h
  have none : s.plan.current = none := by
    by_contra some
    exact idle (core.run.running.mpr (Option.isSome_iff_ne_none.mpr some))
  have sub : s.plan.sub = .none := by simpa [none] using core.run.sub
  have timer : s.plan.waitTimer = .none := core.run.noTimer (by simp [sub])
  have free : s.engine.binding = .none := by
    by_contra some
    obtain ⟨b, hb⟩ := Option.ne_none_iff_exists'.mp some
    rw [(core.bound.bound b hb).1] at none
    cases none
  have pass := core.bound.unbound.mpr free
  have bound : ∀ p, BoundHeld s.steps p s.engine := fun p =>
    ⟨core.bound.unbound, fun b hb => absurd (free.symm.trans hb) (by simp), fun e => absurd (pass.symm.trans e) (by decide)⟩
  unfold startPlan
  split
  · refine planHeld_iff.mpr ⟨⟨?_, by simpa using bound _⟩, attended_of_idle (by simp)⟩
    constructor <;> simp [core.run.tallies, timer]
  · next phase =>
    refine planHeld_iff.mpr ⟨⟨?_, bound _⟩, attended_of_idle (by simp [enterStep])⟩
    simp only [planStep] at phase
    constructor <;> simp [enterStep, planStep, phase]
    rfl

theorem planHeld_endStep (h : PlanHeld s) {n : Nat} (current : s.plan.current = some n) (o : StepOutcome) :
    PlanHeld (endStep n o s) := by
  obtain ⟨core, idle⟩ := (planHeld_iff.mp h).1.ended current o
  exact planHeld_iff.mpr ⟨core, attended_of_idle idle⟩

theorem planHeld_stopPlan (h : PlanHeld s) : PlanHeld (stopPlan s) := by
  unfold stopPlan
  split
  · next current => exact planHeld_endStep h current _
  · exact h

theorem planHeld_waitTimerExpiry (h : PlanHeld s) : PlanHeld (waitTimerExpiry s) := by
  unfold waitTimerExpiry
  split
  · next current => exact planHeld_endStep h current _
  · exact h

/-- A cell that running work does not hold (R132, R148). -/
theorem planHeld_writeCell {o : Obj} {k : Nat} {v : Int} (free : heldCell s o k = false) (h : PlanHeld s) :
    PlanHeld (writeCell o k v s) := by
  obtain ⟨core, attended⟩ := planHeld_iff.mp h
  have running : ∀ n, s.plan.current = some n → s.plan.state = .running := fun n current =>
    core.run.running.mpr (by rw [current]; rfl)
  have kept : ∀ {t : State}, t.steps = s.steps → t.plan = s.plan → t.engine = s.engine →
      (∀ n, s.plan.current = some n → Measuring s (planStep s n).head → Measuring t (planStep s n).head) → PlanHeld t := by
    intro t steps plan engine measuring
    refine planHeld_iff.mpr ⟨core.congr steps plan engine, fun n current active => ?_⟩
    rw [plan] at current active
    have same : planStep t n = planStep s n := by simp only [planStep, steps]
    rw [same]
    exact measuring n current (attended n current active)
  cases o with
  | setting =>
    simp only [writeCell, writeSetting]
    have stored : PlanHeld { s with settings := storeSetting s.settings k v.toNat } := by
      refine kept rfl rfl rfl fun n current m => ?_
      have state := running n current
      have other : k ≠ 0 := by
        rintro rfl
        simp [heldCell, state] at free
      have headCount : (storeSetting s.settings k v.toNat).headCount = s.settings.headCount := by
        unfold storeSetting
        split <;> simp_all
      exact measuring_congr m rfl rfl rfl headCount rfl
    split
    · exact planHeld_departed stored (by simp) (unlockClock_plan _) (unlockClock_engine _)
    · exact stored
  | headrec =>
    refine kept rfl rfl rfl fun n current m => ?_
    have state := running n current
    have other : (planStep s n).head ≠ k / 16 := by
      intro e
      simp [heldCell, state, stepHead, current, e] at free
    exact measuring_congr m rfl rfl rfl rfl (by simp [writeCell, other])
  | planstep =>
    have idle : s.plan.current = none := by
      by_contra some
      obtain ⟨n, current⟩ := Option.ne_none_iff_exists'.mp some
      simp [heldCell, running n current] at free
    have unbound : s.engine.binding = none := by
      by_contra some
      obtain ⟨b, hb⟩ := Option.ne_none_iff_exists'.mp some
      rw [(core.bound.bound b hb).1] at idle
      cases idle
    refine planHeld_iff.mpr ⟨⟨?_, ?_⟩, fun n current => ?_⟩
    · exact { core.run with
        current := fun n e => absurd (idle.symm.trans e) (by simp)
        waiting := fun n e => absurd (idle.symm.trans e) (by simp) }
    · exact { core.bound with bound := fun b e => absurd (unbound.symm.trans e) (by simp) }
    · exact absurd (idle.symm.trans current) (by simp)
  | lintab | runout | defect | state | counter | alert =>
    exact kept rfl rfl rfl fun n _ m => measuring_congr m rfl rfl rfl rfl rfl

theorem planHeld_managed {t : State} (h : PlanHeld s) {code : Nat} {m : Mgmt} (action : Managed code m s t) : PlanHeld t := by
  cases action with
  | unchanged => exact h
  | written o _ _ accepted => exact Actions.written_keeps accepted (fun _ _ _ _ free _ => planHeld_writeCell free) h
  | started _ idle => exact planHeld_startPlan h idle
  | stopped => exact planHeld_stopPlan h
  | restarted => constructor <;> simp [restartState]
  | added | removed | flushed | cleared | zeroed =>
    exact planHeld_congr h (by simp) (by simp) (by simp) fun k m =>
      measuring_congr m (by simp) (by simp) (by simp [headContext]) (by simp) (by simp [headRec])
end

/-- Every effect keeps plan and engine in step. -/
theorem planHeld_effect (c : Instr) (s t : State) (h : PlanHeld s) (effect : Effect c s t) : PlanHeld t := by
  cases effect with
  | powerOn => constructor <;> simp [powerOn, State.reset]
  | wedge arrival bytes => exact planHeld_takeWedge h arrival _ bytes
  | hold bytes =>
    refine planHeld_congr (planHeld_readHoldFrame h (readHold (holdFromBytes bytes))) (by simp [takeHold]) (by simp [takeHold]) (by simp [takeHold]) fun k m => ?_
    exact measuring_congr m (by simp [takeHold]) (by simp [takeHold]) (by simp [takeHold, headContext]) (by simp [takeHold])
      (by simp [takeHold, headRec])
  | request code object r =>
    refine planHeld_congr (planHeld_managed h (actionOf_managed code (readRequest code object r) s)) (by simp) (by simp) (by simp)
      fun k m => ?_
    exact measuring_congr m (by simp) (by simp) (by simp [headContext]) (by simp) (by simp [headRec])
  | missed => exact planHeld_declareMissed h
  | idle => exact planHeld_idleExpiry h
  | wait => exact planHeld_waitTimerExpiry h
  | _ =>
    exact planHeld_congr h (by simp) (by simp) (by simp) fun k m =>
      measuring_congr m (by simp) (by simp) (by simp [headContext]) (by simp) (by simp [headRec])

/-- Settles O58. -/
theorem activeStepsKeepTheirConditions : Obligations.ActiveStepsKeepTheirConditions :=
  step_keeps (fun _ _ h => planHeld_congr h rfl rfl rfl fun _ m => measuring_congr m rfl rfl rfl rfl rfl) planHeld_effect

end Sys2Proof.PlanLaw
end

section
/-! PROOFS. Learning in range (R40, R75, R78 to R90): the solve's bounds, and that every command keeps engine, entries, records and
configuration within theirs. -/

namespace Sys2Proof.LearningLaw

set_option Elab.async false

open Sys2Proof.Machine Sys2Proof.Safety Sys2Proof.Commands Sys2Proof.Actions Sys2Proof.Traffic Sys2Proof.ClockLaw
  Sys2Proof.Notices Sys2Proof.PlanSteps Sys2Proof.Ranges Sys2Proof.Contexts Sys2Proof.DefectTable Sys2Proof.Offsets
  Sys2Proof.Samples Sys2Proof.PlanLaw

/-! ### Bounds of rounded division and of the solve -/

theorem roundDiv_natAbs (x : Int) (d : Nat) : (roundDiv x d).natAbs = (2 * x.natAbs + d) / (2 * d) := by
  unfold roundDiv
  dsimp only
  split
  · rw [Int.natAbs_neg, Int.natAbs_natCast]
  · exact Int.natAbs_natCast _

/-- A rounded quotient stays within a bound that the exact one keeps. -/
theorem roundDiv_natAbs_le {x : Int} {d b : Nat} (hd : 0 < d) (h : x.natAbs ≤ b * d) : (roundDiv x d).natAbs ≤ b := by
  rw [roundDiv_natAbs, ← Nat.lt_succ_iff, Nat.div_lt_iff_lt_mul (by omega)]
  have expand : b.succ * (2 * d) = 2 * (b * d) + 2 * d := by rw [Nat.succ_eq_add_one]; ring
  omega

theorem natAbs_sum_le {l : List Int} {b : Nat} (h : ∀ x ∈ l, x.natAbs ≤ b) : l.sum.natAbs ≤ b * l.length := by
  induction l with
  | nil => simp
  | cons x l ih =>
    have head := h x List.mem_cons_self
    have tail := ih fun y hy => h y (List.mem_cons_of_mem _ hy)
    have step : b * (l.length + 1) = b * l.length + b := by ring
    rw [List.sum_cons, List.length_cons, step]
    omega

theorem countP_isSome_add_isNone {α : Type} (l : List (Option α)) :
    l.countP Option.isSome + l.countP Option.isNone = l.length := by
  induction l with
  | nil => rfl
  | cons d l ih =>
    rw [List.countP_cons, List.countP_cons, List.length_cons, ← ih]
    cases d <;> simp <;> omega

theorem foldl_max_le {l : List Int} {d : Int} {b : Nat} (h : ∀ x ∈ l, (x - d).natAbs ≤ b) :
    ∀ acc, acc ≤ b → l.foldl (fun acc x => max acc (x - d).natAbs) acc ≤ b := by
  induction l with
  | nil => exact fun _ h => h
  | cons x l ih =>
    intro acc hacc
    exact ih (fun y hy => h y (List.mem_cons_of_mem _ hy)) _ (max_le hacc (h x List.mem_cons_self))

section
variable {s : State} {p : PassParams}

theorem engineCell_sum {wedges : Nat} (h : EngineHeld wedges s.engine) (w : Nat) :
    (engineCell s w).sum.natAbs ≤ 8191 * (engineCell s w).count := by
  refine get_of_forall (P := fun c : Cell => c.sum.natAbs ≤ 8191 * c.count) (fun c hc => ?_) (by simp) w
  obtain ⟨_, -, -, sum⟩ := h.cells c hc
  exact sum

/-- A wedge's move lies within the greatest error a sample has (R87). -/
theorem passCorrection_le {wedges : Nat} (h : EngineHeld wedges s.engine) (held : ParamsHeld p) (w : Nat) {x : Int}
    (hx : passCorrection p (engineCell s w) = some x) : x.natAbs ≤ 8191 := by
  unfold passCorrection at hx
  split at hx
  · next updated =>
    cases hx
    have sum := engineCell_sum h w
    have gain := held.gain.2
    have some : 0 < (engineCell s w).count := by
      have := held.revolutions.1
      unfold updateThreshold at updated
      omega
    refine roundDiv_natAbs_le (by omega) ?_
    rw [Int.natAbs_mul, Int.natAbs_natCast]
    calc (engineCell s w).sum.natAbs * p.gain ≤ 8191 * (engineCell s w).count * 16 := Nat.mul_le_mul sum gain
      _ = 8191 * (16 * (engineCell s w).count) := by ring
  · cases hx

theorem passCorrections_le {wedges : Nat} (h : EngineHeld wedges s.engine) (held : ParamsHeld p) :
    ∀ d ∈ passCorrections p s, (d.getD 0).natAbs ≤ 8191 := by
  intro d hd
  obtain ⟨w, -, rfl⟩ := List.mem_map.mp hd
  rcases hx : passCorrection p (engineCell s w) with _ | x
  · simp
  · simpa using passCorrection_le h held w hx

theorem meanFold_le {wedges : Nat} (positive : 0 < s.settings.wedges) (h : EngineHeld wedges s.engine) (held : ParamsHeld p) :
    (meanFold p (passCorrections p s) s.settings.wedges).natAbs ≤ 8191 := by
  unfold meanFold
  split
  · refine roundDiv_natAbs_le positive ?_
    have bound := natAbs_sum_le (l := (passCorrections p s).map fun d => d.getD 0) (b := 8191) fun x hx => by
      obtain ⟨d, hd, rfl⟩ := List.mem_map.mp hx
      exact passCorrections_le h held d hd
    simpa [passCorrections] using bound
  · simp

/-- The solve of a pass is in range (R87, R88, R93). -/
theorem solveHeld_computeSolve {wedges : Nat} (positive : 0 < s.settings.wedges) (h : EngineHeld wedges s.engine)
    (held : ParamsHeld p) (k : Nat) : SolveHeld s.settings.wedges (computeSolve k p s) := by
  have fold := meanFold_le positive h held
  refine ⟨by simp [computeSolve], fun x hx => ?_, ?_, ?_, ?_, ?_⟩
  · simp only [computeSolve, List.mem_map] at hx
    obtain ⟨y, -, rfl⟩ := hx
    exact clamp_mem (by decide) y
  · have counted := countP_isSome_add_isNone (passCorrections p s)
    simpa [computeSolve, passCorrections] using counted
  · exact List.countP_le_length.trans (by simp)
  · simp only [computeSolve]
    omega
  · refine foldl_max_le (fun x hx => ?_) 0 (Nat.zero_le _)
    obtain ⟨d, hd, rfl⟩ := List.mem_filterMap.mp hx
    have bound := passCorrections_le h held (some x) hd
    simp only [Option.getD_some] at bound
    omega
end

/-! ### The learning state -/

section
variable {wedges : Nat} {e : Engine}

theorem engineHeld_empty (wedges : Nat) : EngineHeld wedges {} := by
  constructor <;> simp [Table.canonical, Table.wf, Table.rising]

theorem engineHeld_noticed (h : EngineHeld wedges e) {e' : Engine} (noticed : Noticed e e') : EngineHeld wedges e' := by
  rcases noticed with rfl | rfl
  · exact h
  · unfold discarded
    split
    · next accumulate =>
      have none : e.pendingSolve = none := by
        by_contra some
        have := h.solve.mpr (Option.isSome_iff_ne_none.mpr some)
        rw [accumulate] at this
        cases this
      have bound : e.binding ≠ .none := fun none => by
        rw [h.unbound.mpr none] at accumulate
        cases accumulate
      refine ⟨?_, h.params, h.binding, h.inRange, h.number, h.noNumber, ?_, h.pending, ?_, ?_, rfl, ?_⟩ <;> simp [none, bound]
    · exact h

theorem engineHeld_unboundBy (h : EngineHeld wedges e) (n : Nat) : EngineHeld wedges (unboundBy n e) := by
  unfold unboundBy
  rcases e.binding with _ | b
  · exact h
  · dsimp only
    split
    · exact engineHeld_empty wedges
    · exact h

/-- The learning state after an apply (R89, R90). -/
theorem engineHeld_applied (h : EngineHeld wedges e) {b : Binding} {p : PassParams} (hb : e.binding = some b)
    (hp : e.params = some p) (v : PendingSolve) : EngineHeld wedges { e with
      pendingSolve := none
      pass := .ready
      passNumber := if afterApply p e.passNumber v = .further then e.passNumber + 1 else e.passNumber
      revs := 0 } := by
  refine ⟨by simp [hb], h.params, h.binding, h.inRange, fun q hq => ?_, ?_, by simp, by simp, by simp, by simp, h.cellsForm, h.cells⟩
  · obtain ⟨lower, upper⟩ := h.number q hq
    rw [show q = p from Option.some.inj ((show e.params = some q from hq).symm.trans hp)] at upper ⊢
    dsimp only
    split
    · next further =>
      have more : e.passNumber ≠ p.passes := by
        intro last
        unfold afterApply at further
        split_ifs at further
      omega
    · omega
  · simp [hb]

end

/-! ### Entries, records and steps -/

theorem forall_setAll {α : Type} [DecidableEq α] {P : α → Prop} {d : α} {vs : List α} (hvs : ∀ v ∈ vs, P v) :
    ∀ {t : Table α} {k : Nat}, (∀ c ∈ t, P c.2) → ∀ c ∈ Table.setAll d t k vs, P c.2 := by
  induction vs with
  | nil => exact fun h => h
  | cons v vs ih =>
    intro t k h
    exact ih (fun u hu => hvs u (List.mem_cons_of_mem _ hu)) (Laws.forall_set (P := fun c => P c.2) h (hvs v List.mem_cons_self))

theorem headRecHeld_default : HeadRecHeld {} := by constructor <;> simp

theorem stepHeld_default : StepHeld {} := by constructor <;> simp

section
variable {s : State}

theorem headRecHeld_get (h : ∀ c ∈ s.headRecs, HeadRecHeld c.2) (k : Nat) : HeadRecHeld (headRec s k) :=
  get_of_forall h headRecHeld_default k

theorem stepHeld_get (h : ∀ c ∈ s.steps, StepHeld c.2) (n : Nat) : StepHeld (planStep s n) :=
  get_of_forall h stepHeld_default n

theorem headRecHeld_folded (h : ∀ c ∈ s.headRecs, HeadRecHeld c.2) (k : Nat) (d : Int) : HeadRecHeld (foldedRec s k d) := by
  have held := headRecHeld_get h k
  unfold foldedRec
  split
  · exact { held with offsetDiff := clamp_mem (by decide) _ }
  · exact { held with ownOffset := clamp_mem (by decide) _ }

theorem headRecHeld_measured (h : ∀ c ∈ s.headRecs, HeadRecHeld c.2) (k : Nat) (v : Int) : HeadRecHeld (measuredRec s k v) := by
  have held := headRecHeld_get h k
  unfold measuredRec
  split
  · exact { held with offsetDiff := clamp_mem (by decide) _ }
  · exact { held with ownOffset := clamp_mem (by decide) _ }

/-- What leaves the tables, the plan's current step and the learning state. -/
theorem learningHeld_congr (h : LearningHeld s) {t : State} (settings : t.settings = s.settings) (steps : t.steps = s.steps)
    (linTab : t.linTab = s.linTab) (current : t.plan.current = s.plan.current) (engine : t.engine = s.engine)
    (runout : t.runout = s.runout) (headRecs : t.headRecs = s.headRecs) : LearningHeld t := by
  obtain ⟨⟨c₁, c₂, c₃, c₄, c₅⟩, plan, held, r₁, r₂, h₁, h₂⟩ := h
  rw [← settings] at c₁ held
  rw [← steps] at c₂ c₃
  rw [← linTab] at c₄ c₅
  rw [← current] at plan
  rw [← engine] at held
  rw [← runout] at r₁ r₂
  rw [← headRecs] at h₁ h₂
  exact ⟨⟨c₁, c₂, c₃, c₄, c₅⟩, plan, held, r₁, r₂, h₁, h₂⟩

/-- What reaches the learning state and the current step alone. -/
theorem learningHeld_engine (h : LearningHeld s) {t : State} (settings : t.settings = s.settings) (steps : t.steps = s.steps)
    (linTab : t.linTab = s.linTab) (runout : t.runout = s.runout) (headRecs : t.headRecs = s.headRecs)
    (current : ∀ n, t.plan.current = some n → n ≤ 31) (engine : EngineHeld s.settings.wedges t.engine) : LearningHeld t := by
  obtain ⟨⟨c₁, c₂, c₃, c₄, c₅⟩, -, -, r₁, r₂, h₁, h₂⟩ := h
  rw [← settings] at c₁ engine
  rw [← steps] at c₂ c₃
  rw [← linTab] at c₄ c₅
  rw [← runout] at r₁ r₂
  rw [← headRecs] at h₁ h₂
  exact ⟨⟨c₁, c₂, c₃, c₄, c₅⟩, current, engine, r₁, r₂, h₁, h₂⟩

/-! ### Frames -/

theorem contextStage_current (k : Nat) (s : State) : (contextStage k s).1.plan.current = s.plan.current := by
  have same : (contextStage k s).1.plan = (headSwitch k s).plan := by simp [contextStage]
  rw [same]
  rcases active : s.activeHead with _ | a
  · rw [(headSwitch_first active).2.1]
  · by_cases own : a = k
    · rw [headSwitch_same (active.trans (by rw [own]))]
    · rw [(headSwitch_away active own).2]
      split <;> simp

theorem clockStage_current (arrival : Nat) (f : WedgeRead) (s : State) :
    (clockStage arrival f.head f.wedge f.index s).1.plan.current = s.plan.current := by
  rw [clockStage_plan]
  split <;> simp

theorem departure_current (s : State) : (departure s).plan.current = s.plan.current := by
  rw [departure_plan]
  split <;> simp

theorem learningHeld_contextStage (h : LearningHeld s) (k : Nat) : LearningHeld (contextStage k s).1 :=
  learningHeld_engine h (by simp) (by simp) (by simp) (by simp) (by simp) (by rw [contextStage_current]; exact h.plan)
    (engineHeld_noticed h.engine (contextStage_noticed k s))

theorem learningHeld_clockStage (h : LearningHeld s) (arrival : Nat) (f : WedgeRead) :
    LearningHeld (clockStage arrival f.head f.wedge f.index s).1 :=
  learningHeld_engine h (by simp) (by simp) (by simp) (by simp) (by simp) (by rw [clockStage_current]; exact h.plan)
    (engineHeld_noticed h.engine (clockStage_noticed arrival f s))

theorem learningHeld_applyStage (h : LearningHeld s) (k : Nat) (index : Bool) : LearningHeld (applyStage k index s).1 := by
  rcases hb : s.engine.binding with _ | b
  · rwa [applyStage_other (.inl hb)]
  rcases hp : s.engine.params with _ | p
  · rwa [applyStage_other (.inr (.inl hp))]
  rcases hv : s.engine.pendingSolve with _ | v
  · rwa [applyStage_other (.inr (.inr hv))]
  unfold applyStage
  split
  · obtain ⟨engine, plan, headRecs⟩ := applySolve_leaves hb hp hv
    obtain ⟨runout, -⟩ := Laws.applySolve_runout s b p v hb hp hv
    have solve := h.engine.pending v hv
    have head := (h.engine.binding b hb).1
    have wedges := h.configuration.settings.wedges.2
    have config : ConfigurationHeld (applySolve s).1 := by
      obtain ⟨c₁, c₂, c₃, c₄, c₅⟩ := h.configuration
      exact ⟨by simpa using c₁, by simpa using c₂, by simpa using c₃, by simpa using c₄, by simpa using c₅⟩
    refine ⟨config, by rw [plan]; exact h.plan, ?_, ?_, ?_, ?_, ?_⟩
    · rw [engine]
      simpa using engineHeld_applied h.engine hb hp v
    · rw [runout]
      exact Laws.canonical_setAll _ _ _ h.runoutForm (by rw [solve.length, Config.wedgeCells]; omega)
    · rw [runout]
      exact forall_setAll (P := fun x => -2048 ≤ x ∧ x ≤ 2047) solve.entries h.runout
    · rw [headRecs]
      split
      · exact Laws.canonical_set _ h.headRecsForm (by omega)
      · exact h.headRecsForm
    · rw [headRecs]
      split
      · exact Laws.forall_set (P := fun c => HeadRecHeld c.2) h.headRecs (headRecHeld_folded h.headRecs _ _)
      · exact h.headRecs
  · exact h

theorem learningHeld_endStep (h : LearningHeld s) {n : Nat} (current : s.plan.current = some n) (o : StepOutcome) :
    LearningHeld (endStep n o s) := by
  have small := h.plan n current
  refine learningHeld_engine h (by simp) (by simp) (by simp) (by simp) (by simp) (fun m hm => ?_)
    (by rw [endStep_engine]; exact engineHeld_unboundBy h.engine n)
  by_cases ends : EndsPlan s.steps n o
  · rw [endStep_plan_ends ends] at hm
    cases hm
  · rw [endStep_plan_next ends] at hm
    simp only [EndsPlan, not_or] at ends
    cases hm
    omega

theorem learningHeld_closeStage (h : LearningHeld s) (k : Nat) (event : Bool) (after : Option AfterApply) :
    LearningHeld (closeStage k event after s) := by
  rcases closeStage_cases k event after s with ⟨n, o, current, -, e⟩ | closed
  · rw [e]
    exact learningHeld_endStep h current o
  · generalize closeStage k event after s = t at closed ⊢
    have counted : ∀ r, LearningHeld (setPlan { s.plan with regs := r } s) := fun r =>
      learningHeld_congr h rfl rfl rfl rfl rfl rfl rfl
    cases closed with
    | same => exact h
    | counted n r => exact counted r
    | ended n r o current => exact learningHeld_endStep (counted r) current o
    | written n r v current active head =>
      have small : k ≤ 23 := head ▸ (stepHeld_get h.configuration.steps n).head
      have written : LearningHeld (writeMeasuredOffset k v (setPlan { s.plan with regs := r } s)) := by
        rw [writeMeasuredOffset_eq]
        obtain ⟨c, plan, engine, r₁, r₂, h₁, h₂⟩ := counted r
        exact ⟨⟨c.settings, c.stepsForm, c.steps, c.linForm, c.lin⟩, plan, engine, r₁, r₂, Laws.canonical_set _ h₁ (by omega),
          Laws.forall_set (P := fun c => HeadRecHeld c.2) h₂ (headRecHeld_measured h₂ _ _)⟩
      exact learningHeld_endStep written (by simpa using current) _

theorem tryActivate_current (k : Nat) (s : State) : (tryActivate k s).plan.current = s.plan.current := by
  unfold tryActivate
  split <;> rfl

theorem learningHeld_planStage (h : LearningHeld s) (k : Nat) (event : Bool) (after : Option AfterApply) :
    LearningHeld (planStage k event after s) := by
  have closed := learningHeld_closeStage h k event after
  rw [planStage_eq]
  split
  · exact learningHeld_congr closed (by simp) (by simp) (by simp) (tryActivate_current k _) (by simp) (by simp) (by simp)
  · exact closed

theorem paramsHeld_passParams {p : PlanStep} (h : StepHeld p) : ParamsHeld (passParams p) := by
  have m : 2 ^ p.m ≤ 2 ^ 6 := Nat.pow_le_pow_right (by decide) h.m
  exact ⟨⟨Nat.one_le_two_pow, m⟩, h.passes, h.gain, Nat.min_le_right _ _⟩

theorem engineHeld_beginPass (h : LearningHeld s) {k n : Nat} (learn : activeLearnStep s k = some n)
    (pass : s.engine.pass = .unbound ∨ s.engine.pass = .ready) : EngineHeld s.settings.wedges (beginPass k n s).engine := by
  obtain ⟨current, -, -, head⟩ := activeLearnStep_some learn
  have step := stepHeld_get h.configuration.steps n
  have params := paramsHeld_passParams step
  have engine := h.engine
  have none : s.engine.pendingSolve = none := by
    by_contra some
    have := engine.solve.mpr (Option.isSome_iff_ne_none.mpr some)
    rcases pass with e | e <;> (rw [e] at this; cases this)
  unfold beginPass
  dsimp only
  split
  · refine ⟨by simp, by simp, fun b hb => ?_, fun p hp => ?_, fun p hp => ?_, by simp, by simp [none], by simp [none],
      fun _ p hp => ?_, by simp, rfl, by simp⟩
    · cases hb
      exact ⟨head ▸ step.head, h.plan n current⟩
    · cases hp
      exact params
    · cases hp
      exact ⟨le_rfl, params.passes.1⟩
    · cases hp
      exact params.revolutions.1
  · next bound =>
    refine ⟨?_, engine.params, engine.binding, engine.inRange, engine.number, engine.noNumber, by simp [none],
      engine.pending, fun _ p hp => (engine.inRange p hp).revolutions.1, by simp, rfl, by simp⟩
    exact Iff.intro (fun e => by cases e) (fun e => absurd (engine.unbound.mpr e) bound)

theorem engineHeld_countPassRevolution (h : LearningHeld s) (accumulate : s.engine.pass = .accumulate) :
    EngineHeld s.settings.wedges (countPassRevolution s).engine := by
  have engine := h.engine
  have positive : 0 < s.settings.wedges := by have := h.configuration.settings.wedges.1; omega
  have none : s.engine.pendingSolve = none := by
    by_contra some
    have := engine.solve.mpr (Option.isSome_iff_ne_none.mpr some)
    rw [accumulate] at this
    cases this
  rcases hb : s.engine.binding with _ | b
  · rw [engine.unbound.mpr hb] at accumulate
    cases accumulate
  rcases hp : s.engine.params with _ | p
  · have := engine.params
    simp [hb, hp] at this
  have held := engine.inRange p hp
  have below := engine.counting accumulate p hp
  have most := held.revolutions.2
  rcases Nat.lt_or_ge (s.engine.revs + 1) p.revolutions with more | last
  · rw [Laws.countPassRevolution_more s b p hb hp more]
    refine { engine with counting := fun _ q hq => ?_, revs := ?_ }
    · rw [show q = p from Option.some.inj ((show s.engine.params = some q from hq).symm.trans hp)]
      exact more
    · show s.engine.revs + 1 ≤ 64
      omega
  · rw [Laws.countPassRevolution_last s b p hb hp last]
    refine { engine with unbound := ?_, solve := by simp, pending := fun v hv => ?_, counting := fun e => ?_, revs := ?_ }
    · simp [hb]
    · cases hv
      exact solveHeld_computeSolve positive engine held b.head
    · cases e
    · show s.engine.revs + 1 ≤ 64
      omega

theorem learningHeld_engineStage (h : LearningHeld s) (k : Nat) (event further : Bool) :
    LearningHeld (engineStage k event further s) := by
  refine learningHeld_engine h (by simp) (by simp) (by simp) (by simp) (by simp) (by simpa using h.plan) ?_
  unfold engineStage
  split
  · next accumulate =>
    split
    · exact engineHeld_countPassRevolution h accumulate
    · exact h.engine
  · exact h.engine
  · next pass =>
    split
    · split
      · next learn => exact engineHeld_beginPass h learn (.inl pass)
      · exact h.engine
    · exact h.engine
  · next pass =>
    split
    · split
      · next learn => exact engineHeld_beginPass h learn (.inr pass)
      · exact h.engine
    · exact h.engine

/-- An accepted sample lies within the learn window, and its cell below the pass's revolutions (R83). -/
theorem engineHeld_addSample (h : LearningHeld s) {w : Nat} (small : w < 512) {ec : Int}
    (room : (engineCell s w).count < cellLimit s)
    (window : ec.natAbs ≤ s.settings.learnWindow) : EngineHeld s.settings.wedges (addSample w ec s).engine := by
  have engine := h.engine
  have widest := h.configuration.settings.learnWindow.2
  have sum := engineCell_sum engine w
  rcases hp : s.engine.params with _ | p
  · simp [cellLimit, hp] at room
  · have limit : cellLimit s = p.revolutions := by simp [cellLimit, hp]
    refine { engine with
      cellsForm := Laws.canonical_set _ engine.cellsForm small
      cells := Laws.forall_set engine.cells ⟨p, hp, ?_, ?_⟩ }
    · show (engineCell s w).count + 1 ≤ p.revolutions
      omega
    · show ((engineCell s w).sum + ec).natAbs ≤ 8191 * ((engineCell s w).count + 1)
      omega

theorem frameStage_current (f : WedgeRead) (k : FrameFacts) (s : State) : (frameStage f k s).1.plan.current = s.plan.current := by
  rcases frameStage_watched f k s with e | ⟨-, r, e⟩ <;> rw [e]

theorem learningHeld_frameStage (h : LearningHeld s) (f : WedgeRead) (small : f.wedge < 512) (k : FrameFacts) :
    LearningHeld (frameStage f k s).1 := by
  refine learningHeld_engine h (by simp) (by simp) (by simp) (by simp) (by simp) (by rw [frameStage_current]; exact h.plan) ?_
  have sampled := frameStage_sampled f k s
  generalize (frameStage f k s).1.engine = e at sampled ⊢
  cases sampled with
  | same => exact h.engine
  | added ec _ _ _ room window => exact engineHeld_addSample h small room window

theorem learningHeld_handleWedge (h : LearningHeld s) (arrival : Nat) (f : WedgeRead) (small : f.wedge < 512) (bytes : Frame) :
    LearningHeld (handleWedge arrival f bytes s) := by
  have ruled : LearningHeld (ruled arrival f s).1 := learningHeld_clockStage (learningHeld_contextStage h f.head) arrival f
  have planned : LearningHeld (planned arrival f s) :=
    learningHeld_planStage (learningHeld_applyStage ruled f.head f.index) _ _ _
  have classed : LearningHeld (classed arrival f s).1 :=
    learningHeld_frameStage (learningHeld_engineStage planned f.head _ _) f small _
  rw [handleWedge_eq]
  exact learningHeld_congr classed (by simp) (by simp) (by simp) (by simp) (by simp) (by simp) (by simp)

theorem learningHeld_passWedge (h : LearningHeld s) (arrival : Nat) (f : WedgeRead) (bytes : Frame) :
    LearningHeld (passWedge arrival f bytes s) := by
  have counted : ∀ (c : Counter) {u : State}, LearningHeld u → LearningHeld (bump c u) := fun c u h =>
    learningHeld_congr h rfl rfl rfl rfl rfl rfl rfl
  have offered : ∀ {u : State}, LearningHeld u → LearningHeld (offerLoop bytes u) := fun h =>
    learningHeld_congr h (by simp) (by simp) (by simp) (by simp) (by simp) (by simp) (by simp)
  have foreign : LearningHeld (if s.settings.headCount ≤ f.head then bump .foreignHead s else s) := by
    split
    · exact counted _ h
    · exact h
  unfold passWedge
  dsimp only
  split
  · exact offered (counted _ foreign)
  · exact offered (learningHeld_engineStage (learningHeld_planStage (learningHeld_clockStage foreign arrival f) f.head _ _) f.head _ _)

theorem learningHeld_departed (h : LearningHeld s) {t : State} (settings : t.settings = s.settings) (steps : t.steps = s.steps)
    (linTab : t.linTab = s.linTab) (runout : t.runout = s.runout) (headRecs : t.headRecs = s.headRecs)
    (plan : t.plan = (departure s).plan) (engine : t.engine = (departure s).engine) : LearningHeld t :=
  learningHeld_engine h settings steps linTab runout headRecs (by rw [plan, departure_current]; exact h.plan)
    (by rw [engine]; exact engineHeld_noticed h.engine (departure_noticed s))

theorem learningHeld_loseClock (h : LearningHeld s) (cause : Nat) : LearningHeld (loseClock cause s) :=
  learningHeld_departed h (by simp) (by simp) (by simp) (by simp) (by simp) (loseClock_plan cause s) (loseClock_engine cause s)

theorem learningHeld_declareMissed (h : LearningHeld s) : LearningHeld (declareMissed s) := by
  rcases expected : s.clock.expected with _ | e
  · rwa [declareMissed_none expected]
  · have once : LearningHeld (missedOnce e s) :=
      learningHeld_congr h (by simp) (by simp) (by simp [missedOnce]) (by simp) (by simp) (by simp [missedOnce]) (by simp)
    rw [declareMissed_some expected]
    split
    · exact learningHeld_loseClock once 1
    · exact once

theorem learningHeld_closePast (h : LearningHeld s) (now fuel : Nat) : LearningHeld (closePast now fuel s) := by
  induction fuel generalizing s with
  | zero => exact h
  | succ fuel ih =>
    unfold closePast
    split
    · exact ih (learningHeld_declareMissed h)
    · exact h

theorem learningHeld_takeWedge (h : LearningHeld s) (arrival : Nat) (f : WedgeRead) (bytes : Frame) :
    LearningHeld (takeWedge arrival f bytes s) := by
  have closed := learningHeld_closePast h arrival Config.maxMisses
  have wedges := closed.configuration.settings.wedges.2
  unfold takeWedge
  dsimp only
  split
  · next taken =>
    obtain ⟨-, -, wedge⟩ := eligible_iff.mp taken
    exact learningHeld_handleWedge closed arrival f (by omega) bytes
  · exact learningHeld_passWedge closed arrival f bytes

theorem readHoldFrame_current (f : HoldRead) (s : State) : (readHoldFrame f s).plan.current = s.plan.current := by
  unfold readHoldFrame
  dsimp only
  split_ifs
  · rw [headNotice_plan]
    split <;> simp
  · rfl
  · rfl

theorem learningHeld_readHoldFrame (h : LearningHeld s) (f : HoldRead) : LearningHeld (readHoldFrame f s) :=
  learningHeld_engine h (by simp) (by simp) (by simp) (by simp) (by simp) (by rw [readHoldFrame_current]; exact h.plan)
    (engineHeld_noticed h.engine (readHoldFrame_noticed f s))

/-! ### Requests -/

/-- With nothing bound W may change (R148). -/
theorem engineHeld_wedges {wedges wedges' : Nat} {e : Engine} (h : EngineHeld wedges e) (free : e.binding = none) :
    EngineHeld wedges' e := by
  have none : e.pendingSolve = none := by
    by_contra some
    have solve := h.solve.mpr (Option.isSome_iff_ne_none.mpr some)
    rw [h.unbound.mpr free] at solve
    cases solve
  exact { h with pending := fun v hv => absurd (none.symm.trans hv) (by simp) }

theorem learningHeld_writeSetting (h : LearningHeld s) {k : Nat} (v : Int) (writable : k < 14)
    (free : heldCell s .setting k = false) : LearningHeld (writeSetting k (storedValue .setting k v).toNat s) := by
  have settings := settingsHeld_storeSetting h.configuration.settings writable v
  generalize (storedValue .setting k v).toNat = x at settings ⊢
  have engine : EngineHeld (storeSetting s.settings k x).wedges s.engine := by
    by_cases w : k = 1
    · subst w
      have unbound : s.engine.binding = none := by
        simp only [heldCell, Nat.le_refl, decide_true, Bool.true_and, Bool.or_eq_false_iff] at free
        simpa using free.2
      exact engineHeld_wedges h.engine unbound
    · rw [storeSetting_wedges (by simp [w])]
      exact h.engine
  have stored : LearningHeld { s with settings := storeSetting s.settings k x } := by
    obtain ⟨c, plan, -, r₁, r₂, h₁, h₂⟩ := h
    exact ⟨⟨settings, c.stepsForm, c.steps, c.linForm, c.lin⟩, plan, engine, r₁, r₂, h₁, h₂⟩
  unfold writeSetting
  dsimp only
  split
  · exact learningHeld_departed stored (by simp) (by simp) (by simp) (by simp) (by simp) (unlockClock_plan _) (unlockClock_engine _)
  · exact stored

theorem headRecHeld_storeHeadField {r : HeadRec} (h : HeadRecHeld r) (k : Nat) (v : Int) :
    HeadRecHeld (storeHeadField r (k % 16) (storedValue .headrec k v)) := by
  have stored := fun lo hi : Nat => clamp_toNat lo hi (x := v)
  simp only [storedValue, cellRange]
  unfold headFieldRange storeHeadField
  split
  · exact { h with }
  · exact { h with }
  · exact { h with burstFloor := (stored 0 8190 (by decide)).2 }
  · exact { h with }
  · exact { h with }
  · exact { h with }
  · exact { h with }
  · exact { h with ownOffset := clamp_mem (by decide) _ }
  · exact { h with refHead := (stored 0 23 (by decide)).2 }
  · exact { h with offsetDiff := clamp_mem (by decide) _ }
  · exact { h with }
  · exact h

theorem stepHeld_storeStepField {p : PlanStep} (h : StepHeld p) (k : Nat) (v : Int) :
    StepHeld (storeStepField p (k % 16) (storedValue .planstep k v)) := by
  have stored := fun lo hi : Nat => clamp_toNat lo hi (x := v)
  simp only [storedValue, cellRange]
  unfold stepFieldRange storeStepField
  split
  · exact { h with }
  · exact { h with head := (stored 0 23 (by decide)).2 }
  · exact { h with m := (stored 0 6 (by decide)).2 }
  · exact { h with passes := stored 1 16 (by decide) }
  · exact { h with gain := stored 1 16 (by decide) }
  · exact { h with limitA := (stored 0 8191 (by decide)).2 }
  · exact { h with limitB := (stored 0 8191 (by decide)).2 }
  · exact { h with }
  · exact { h with }
  · exact { h with timeout := (stored 0 65535 (by decide)).2 }
  · exact h

theorem learningHeld_writeCell (h : LearningHeld s) {o : Obj} {k : Nat} (v : Int) (writable : readOnlyCell o k = false)
    (free : heldCell s o k = false) (bound : k < o.size) : LearningHeld (writeCell o k (storedValue o k v) s) := by
  cases o with
  | setting => exact learningHeld_writeSetting h v (by simpa [readOnlyCell] using writable) free
  | headrec =>
    simp only [Obj.size] at bound
    obtain ⟨c, plan, engine, r₁, r₂, h₁, h₂⟩ := h
    exact ⟨⟨c.settings, c.stepsForm, c.steps, c.linForm, c.lin⟩, plan, engine, r₁, r₂, Laws.canonical_set _ h₁ (by omega),
      Laws.forall_set (P := fun c => HeadRecHeld c.2) h₂ (headRecHeld_storeHeadField (headRecHeld_get h₂ _) k v)⟩
  | lintab =>
    obtain ⟨c, plan, engine, r₁, r₂, h₁, h₂⟩ := h
    exact ⟨⟨c.settings, c.stepsForm, c.steps, Laws.canonical_set _ c.linForm bound,
      Laws.forall_set (P := fun c => -128 ≤ c.2 ∧ c.2 ≤ 127) c.lin (clamp_mem (by decide) v)⟩, plan, engine, r₁, r₂, h₁, h₂⟩
  | runout =>
    obtain ⟨c, plan, engine, r₁, r₂, h₁, h₂⟩ := h
    exact ⟨⟨c.settings, c.stepsForm, c.steps, c.linForm, c.lin⟩, plan, engine, Laws.canonical_set _ r₁ bound,
      Laws.forall_set (P := fun c => -2048 ≤ c.2 ∧ c.2 ≤ 2047) r₂ (clamp_mem (by decide) v), h₁, h₂⟩
  | planstep =>
    simp only [Obj.size] at bound
    obtain ⟨c, plan, engine, r₁, r₂, h₁, h₂⟩ := h
    exact ⟨⟨c.settings, Laws.canonical_set _ c.stepsForm (by omega),
      Laws.forall_set (P := fun c => StepHeld c.2) c.steps (stepHeld_storeStepField (stepHeld_get c.steps _) k v),
      c.linForm, c.lin⟩, plan, engine, r₁, r₂, h₁, h₂⟩
  | defect | state | counter | alert => exact learningHeld_congr h rfl rfl rfl rfl rfl rfl rfl

theorem learningHeld_startPlan (h : LearningHeld s) : LearningHeld (startPlan s) := by
  refine learningHeld_engine h (by simp) (by simp) (by simp) (by simp) (by simp) (fun n hn => ?_) (by simpa using h.engine)
  unfold startPlan at hn
  split at hn
  · simp at hn
  · cases hn
    exact Nat.zero_le _

theorem learningHeld_stopPlan (h : LearningHeld s) : LearningHeld (stopPlan s) := by
  unfold stopPlan
  split
  · next current => exact learningHeld_endStep h current _
  · exact h

theorem learningHeld_waitTimerExpiry (h : LearningHeld s) : LearningHeld (waitTimerExpiry s) := by
  unfold waitTimerExpiry
  split
  · next current => exact learningHeld_endStep h current _
  · exact h

theorem learningHeld_managed {t : State} (h : LearningHeld s) {code : Nat} {m : Mgmt} (action : Managed code m s t) :
    LearningHeld t := by
  cases action with
  | unchanged => exact h
  | written o _ _ accepted =>
    exact written_keeps accepted (fun _ v _ writable free bound h => learningHeld_writeCell h v writable free bound) h
  | started => exact learningHeld_startPlan h
  | stopped => exact learningHeld_stopPlan h
  | zeroed k =>
    obtain ⟨c, plan, engine, r₁, r₂, h₁, h₂⟩ := h
    exact ⟨⟨c.settings, c.stepsForm, c.steps, c.linForm, c.lin⟩, plan, engine, Laws.canonical_filter _ r₁,
      fun c hc => r₂ c (List.mem_of_mem_filter hc), h₁, h₂⟩
  | restarted =>
    exact learningHeld_engine h rfl rfl rfl rfl rfl (by simp [restartState]) (engineHeld_empty _)
  | added | removed | flushed | cleared =>
    exact learningHeld_congr h (by simp) (by simp) (by simp) (by simp) (by simp) (by simp) (by simp)

end

/-- Every effect keeps learning in range. -/
theorem learningHeld_effect (c : Instr) (s t : State) (h : LearningHeld s) (effect : Effect c s t) : LearningHeld t := by
  cases effect with
  | powerOn =>
    obtain ⟨-, reset, -⟩ := resetMeetsTheInvariants
    exact learningHeld_congr reset rfl rfl rfl rfl rfl rfl rfl
  | wedge arrival bytes => exact learningHeld_takeWedge h arrival _ bytes
  | hold bytes =>
    exact learningHeld_congr (learningHeld_readHoldFrame h (readHold (holdFromBytes bytes))) (by simp [takeHold])
      (by simp [takeHold]) (by simp [takeHold]) (by simp [takeHold]) (by simp [takeHold]) (by simp [takeHold]) (by simp [takeHold])
  | request code object r =>
    exact learningHeld_congr (learningHeld_managed h (actionOf_managed code (readRequest code object r) s)) (by simp) (by simp)
      (by simp) (by simp) (by simp) (by simp) (by simp)
  | missed => exact learningHeld_declareMissed h
  | idle =>
    unfold idleExpiry
    split
    · exact learningHeld_loseClock h 2
    · exact h
  | wait => exact learningHeld_waitTimerExpiry h
  | _ => exact learningHeld_congr h (by simp) (by simp) (by simp) (by simp) (by simp) (by simp) (by simp)

/-- Settles O55. -/
theorem learningStaysInRange : Obligations.LearningStaysInRange :=
  step_keeps (fun _ _ h => learningHeld_congr h rfl rfl rfl rfl rfl rfl rfl) learningHeld_effect

end Sys2Proof.LearningLaw
end

section
/-! PROOFS. The part's arithmetic: the fraction and its linearization (R26, R27), the periods of a revolution (R63), and the
offset writes (R45 to R47). -/

namespace Sys2Proof.Figures

set_option Elab.async false

open Sys2Proof.Machine Sys2Proof.Safety Sys2Proof.Rounding Sys2Proof.Ranges Sys2Proof.Offsets

/-! ### The fraction (R26) -/

theorem roundDiv_half (x : Int) (lower : -512 ≤ x) (upper : x ≤ 512) :
    Rounded (roundDiv x 2) x 2 ∧ -256 ≤ roundDiv x 2 ∧ roundDiv x 2 ≤ 256 := by
  have rounded := roundDiv_rounded x (d := 2) (by decide)
  exact ⟨rounded, ge_of_rounded (by decide) rounded (by push_cast; omega), le_of_rounded (by decide) rounded (by push_cast; omega)⟩

/-- The ratio of smaller magnitude is the normal one: half of it (R26). -/
theorem fraction_normal {n q : Int} (lower : -512 ≤ n) (upper : n ≤ 512) (smaller : |n| ≤ |q|) :
    fraction n q = roundDiv n 2 := by
  obtain ⟨-, low, high⟩ := roundDiv_half n lower upper
  rw [Int.abs_eq_natAbs, Int.abs_eq_natAbs] at smaller
  have magnitudes : n.natAbs ≤ q.natAbs := by omega
  rw [fraction, if_pos magnitudes, clamp_of_mem (by omega) (by omega)]

/-- The ratio of smaller magnitude is the quadrature one: an offset of 256 on the side of the normal one (R26). -/
theorem fraction_quadrature {n q : Int} (lower : -512 ≤ q) (upper : q ≤ 512) (smaller : |q| < |n|) :
    (0 < n → fraction n q = min 511 (256 + roundDiv q 2)) ∧ (n < 0 → fraction n q = -(256 + roundDiv q 2)) := by
  obtain ⟨-, low, high⟩ := roundDiv_half q lower upper
  rw [Int.abs_eq_natAbs, Int.abs_eq_natAbs] at smaller
  have magnitudes : ¬n.natAbs ≤ q.natAbs := by omega
  rw [fraction, if_neg magnitudes]
  refine ⟨fun positive => ?_, fun negative => ?_⟩
  · rw [if_pos positive, clamp_eq _ _ _ (by decide)]
    omega
  · rw [if_neg (by omega), clamp_of_mem (by omega) (by omega)]

/-! ### The linearization (R27) -/

/-- A value between two points of the table lies between their bounds. -/
theorem interpolated_mem {a b d i : Int} (ha : -128 ≤ a ∧ a ≤ 127) (hb : -128 ≤ b ∧ b ≤ 127) (hd : 0 ≤ d ∧ d ≤ 127)
    (below : 128 * i ≤ (b - a) * d) (above : (b - a) * d < 128 * (i + 1)) : -128 ≤ a + i ∧ a + i ≤ 127 := by
  have mixed : 128 * a + (b - a) * d = a * (128 - d) + b * d := by ring
  have low : -128 * 128 ≤ a * (128 - d) + b * d := by nlinarith [ha.1, hb.1, hd.1, hd.2]
  have high : a * (128 - d) + b * d ≤ 127 * 128 := by nlinarith [ha.2, hb.2, hd.1, hd.2]
  constructor <;> omega

/-- Settles O15: the two ratios bound the rounded halves, and the two points of the segment the interpolated correction. -/
theorem fractionAndLinearization : Obligations.FractionAndLinearization := by
  refine ⟨fun n q n₁ n₂ q₁ q₂ => ⟨fun smaller => ?_, fun smaller => ?_, clamp_mem (by decide) _⟩, fun c p points p₁ p₂ => ?_⟩
  · rw [fraction_normal n₁ n₂ smaller]
    exact (roundDiv_half n n₁ n₂).1
  · exact ⟨roundDiv q 2, (roundDiv_half q q₁ q₂).1, fraction_quadrature q₁ q₂ smaller⟩
  · have segments : ((Machine.segment p : Nat) : Int) = (p + 512) / 128 := by
      simp only [Machine.segment, floorDiv]
      omega
    generalize hk : Machine.segment p = k at segments
    have into : 0 ≤ p - (-512 + 128 * (k : Int)) ∧ p - (-512 + 128 * (k : Int)) ≤ 127 := by omega
    have below := Int.mul_ediv_self_le (x := (c (k + 1) - c k) * (p - (-512 + 128 * (k : Int)))) (k := 128) (by decide)
    have above := Int.lt_mul_ediv_self_add (x := (c (k + 1) - c k) * (p - (-512 + 128 * (k : Int)))) (k := 128) (by decide)
    refine ⟨k, (c (k + 1) - c k) * (p - (-512 + 128 * (k : Int))) / 128, by omega, by omega, by omega, below, by omega, ?_⟩
    obtain ⟨low, high⟩ := interpolated_mem (points k (by omega)) (points (k + 1) (by omega)) into below (by omega)
    refine ⟨low, high, ?_⟩
    rw [linearize, clamp_eq _ _ _ (by decide), linCorrection, hk]
    rfl

/-! ### The periods of a revolution (R63) -/

theorem sum_wedgePeriod (c : Clock) (wedges : Nat) :
    ((List.range wedges).map (wedgePeriod c)).sum = wedges * c.period + min wedges c.remainder := by
  induction wedges with
  | zero => simp
  | succ n ih =>
    rw [List.range_succ, List.map_append, List.sum_append, ih, Nat.add_mul]
    simp only [List.map_cons, List.map_nil, List.sum_cons, List.sum_nil, wedgePeriod]
    split <;> omega

/-- Settles O23: every wedge has P, and those below r one more. -/
theorem periodsSumToTheRevolution : Obligations.PeriodsSumToTheRevolution := by
  intro c wedges length small
  rw [sum_wedgePeriod, Nat.min_eq_right small.le, Nat.mul_comm]
  exact length

/-! ### The offset writes (R45 to R47) -/

theorem clampOffset_eq (x : Int) : clampOffset x = max (-8192) (min 8191 x) := clamp_eq _ _ _ (by decide)

/-- A record that keeps its source and reference head tracks as before. -/
theorem tracking_setHeadRec {h : Nat} {r : HeadRec} {s : State} (source : r.source = (headRec s h).source)
    (reference : r.refHead = (headRec s h).refHead) : tracking (setHeadRec h r s) h = tracking s h := by
  by_cases self : (headRec s h).refHead = h <;> simp [tracking, source, reference, self]

theorem effectiveOffset_setHeadRec {h : Nat} {r : HeadRec} {s : State} (source : r.source = (headRec s h).source)
    (reference : r.refHead = (headRec s h).refHead) : effectiveOffset (setHeadRec h r s) h =
      if tracking s h then clampOffset ((headRec s (headRec s h).refHead).ownOffset + r.offsetDiff) else r.ownOffset := by
  unfold effectiveOffset
  dsimp only
  rw [tracking_setHeadRec source reference]
  split
  · next tracks =>
    have other : (headRec s h).refHead ≠ h := by simp [tracking] at tracks; exact tracks.2
    simp [reference, other]
  · simp

/-- A head that does not track has its own offset. -/
theorem effectiveOffset_own {s : State} {h : Nat} (own : tracking s h = false) :
    effectiveOffset s h = (headRec s h).ownOffset := by
  simp [effectiveOffset, own]

theorem foldedRec_same (s : State) (h : Nat) (d : Int) : (foldedRec s h d).source = (headRec s h).source ∧
    (foldedRec s h d).refHead = (headRec s h).refHead ∧ (foldedRec s h d).offsetValid = true := by
  unfold foldedRec
  split <;> exact ⟨rfl, rfl, rfl⟩

theorem measuredRec_same (s : State) (h : Nat) (v : Int) : (measuredRec s h v).source = (headRec s h).source ∧
    (measuredRec s h v).refHead = (headRec s h).refHead ∧ (measuredRec s h v).offsetValid = true := by
  unfold measuredRec
  split <;> exact ⟨rfl, rfl, rfl⟩

/-- The effective offset a mean fold leaves (R47). -/
theorem effectiveOffset_fold (s : State) (h : Nat) (d : Int) : effectiveOffset (foldOffset h d s) h =
    if tracking s h then clampOffset ((headRec s (headRec s h).refHead).ownOffset + clampOffset ((headRec s h).offsetDiff + d))
    else clampOffset (effectiveOffset s h + d) := by
  rw [foldOffset_eq, effectiveOffset_setHeadRec (foldedRec_same s h d).1 (foldedRec_same s h d).2.1]
  cases tracks : tracking s h
  · simp [foldedRec, tracks, effectiveOffset_own tracks]
  · simp [foldedRec, tracks]

/-- The effective offset an offset result leaves (R46). -/
theorem effectiveOffset_measured (s : State) (h : Nat) (v : Int) : effectiveOffset (writeMeasuredOffset h v s) h =
    if tracking s h then clampOffset ((headRec s (headRec s h).refHead).ownOffset +
      clampOffset (v - (headRec s (headRec s h).refHead).ownOffset))
    else clampOffset v := by
  rw [writeMeasuredOffset_eq, effectiveOffset_setHeadRec (measuredRec_same s h v).1 (measuredRec_same s h v).2.1]
  cases tracks : tracking s h <;> simp [measuredRec, tracks]

/-- Settles O20: both writes keep source and reference head, so the head tracks after them as before. -/
theorem offsetWritesMoveTheEffectiveOffset : Obligations.OffsetWritesMoveTheEffectiveOffset := by
  intro s h v clip r o t u
  have fold : effectiveOffset u h = _ := effectiveOffset_fold s h v
  have measured : effectiveOffset t h = _ := effectiveOffset_measured s h v
  have foldRec : ∀ k, headRec u k = if k = h then foldedRec s h v else headRec s k := by simp [u, foldOffset_eq]
  have measuredRec : ∀ k, headRec t k = if k = h then measuredRec s h v else headRec s k := by simp [t, writeMeasuredOffset_eq]
  refine ⟨?_, fun k other => ?_, fun own => ?_, fun tracks => ?_⟩
  · rw [foldRec, measuredRec, if_pos rfl, if_pos rfl]
    exact ⟨(measuredRec_same s h v).2.2, (foldedRec_same s h v).2.2⟩
  · rw [foldRec, measuredRec, if_neg other, if_neg other]
    exact ⟨rfl, rfl⟩
  · rw [fold, measured, foldRec, measuredRec, own]
    simp [clampOffset_eq, Offsets.measuredRec, foldedRec, own, clip, r]
  · rw [fold, measured, foldRec, measuredRec, tracks]
    simp [clampOffset_eq, Offsets.measuredRec, foldedRec, tracks, clip, r, o]

end Sys2Proof.Figures
end

section
/-! PROOFS. The solve of a pass (R87, R88): each wedge's move, the fold, the entries and the figures. -/

namespace Sys2Proof.Solves

set_option Elab.async false

open Sys2Proof.Machine Sys2Proof.Safety Sys2Proof.Rounding Sys2Proof.Ranges

/-- A wedge's cell has samples of at least half the revolutions (R87). -/
def isUpdated (p : PassParams) (s : State) (w : Nat) : Bool := decide (p.revolutions ≤ 2 * (engineCell s w).count)

/-- A wedge's move: its correction, 0 where it is thin (R87). -/
def moveOf (p : PassParams) (s : State) (w : Nat) : Int := (passCorrection p (engineCell s w)).getD 0

variable {p : PassParams} {s : State} {w : Nat}

theorem passCorrection_updated (h : isUpdated p s w = true) : passCorrection p (engineCell s w) =
    some (roundDiv ((engineCell s w).sum * p.gain) (16 * (engineCell s w).count)) := by
  have enough := of_decide_eq_true h
  rw [passCorrection, if_pos (by unfold updateThreshold; omega)]

theorem passCorrection_thin (h : isUpdated p s w = false) : passCorrection p (engineCell s w) = none := by
  have few := of_decide_eq_false h
  rw [passCorrection, if_neg (by unfold updateThreshold; omega)]

theorem isSome_passCorrection (p : PassParams) (s : State) (w : Nat) :
    (passCorrection p (engineCell s w)).isSome = isUpdated p s w := by
  cases h : isUpdated p s w
  · rw [passCorrection_thin h]; rfl
  · rw [passCorrection_updated h]; rfl

theorem passCorrection_eq (h : isUpdated p s w = true) : passCorrection p (engineCell s w) = some (moveOf p s w) := by
  rw [moveOf, passCorrection_updated h]
  rfl

/-- The largest of a list's values under a running maximum: an upper bound, and reached unless it is the start. -/
theorem le_foldl_max {α : Type} (g : α → Nat) (l : List α) (m : Nat) :
    m ≤ l.foldl (fun acc x => max acc (g x)) m ∧ ∀ x ∈ l, g x ≤ l.foldl (fun acc x => max acc (g x)) m := by
  induction l generalizing m with
  | nil => simp
  | cons y l ih =>
    obtain ⟨start, rest⟩ := ih (max m (g y))
    refine ⟨by simp only [List.foldl_cons]; omega, fun x hx => ?_⟩
    rcases List.mem_cons.mp hx with rfl | hx
    · simp only [List.foldl_cons]; omega
    · exact rest x hx

theorem foldl_max_mem {α : Type} (g : α → Nat) (l : List α) (m : Nat) :
    l.foldl (fun acc x => max acc (g x)) m = m ∨ ∃ x ∈ l, g x = l.foldl (fun acc x => max acc (g x)) m := by
  induction l generalizing m with
  | nil => simp
  | cons y l ih =>
    rw [List.foldl_cons]
    rcases ih (max m (g y)) with start | ⟨x, hx, reached⟩
    · rw [start]
      rcases Nat.le_total (g y) m with below | above
      · exact .inl (Nat.max_eq_left below)
      · exact .inr ⟨y, List.mem_cons_self, (Nat.max_eq_right above).symm⟩
    · exact .inr ⟨x, List.mem_cons_of_mem _ hx, reached⟩

/-- The moves the largest change is taken over are those of the updated wedges. -/
theorem mem_moves {x : Int} : x ∈ (passCorrections p s).filterMap id ↔
    ∃ k < s.settings.wedges, isUpdated p s k = true ∧ moveOf p s k = x := by
  simp only [passCorrections, List.mem_filterMap, List.mem_map, List.mem_range, id]
  constructor
  · rintro ⟨_, ⟨k, small, rfl⟩, move⟩
    have updated : isUpdated p s k = true := by rw [← isSome_passCorrection, move]; rfl
    refine ⟨k, small, updated, ?_⟩
    rw [passCorrection_eq updated] at move
    exact Option.some.inj move
  · rintro ⟨k, small, updated, rfl⟩
    exact ⟨_, ⟨k, small, rfl⟩, passCorrection_eq updated⟩

theorem clampEntry_ne (x : Int) : clampEntry x ≠ x ↔ x < -2048 ∨ 2047 < x := by
  unfold clampEntry clamp
  split_ifs <;> omega

theorem countP_updated (p : PassParams) (s : State) :
    (passCorrections p s).countP Option.isSome = (List.range s.settings.wedges).countP (isUpdated p s) := by
  rw [passCorrections, List.countP_map]
  exact List.countP_congr fun k _ => by simp [isSome_passCorrection]

theorem countP_isSome_add_isNone {α : Type} (l : List (Option α)) : l.countP Option.isSome + l.countP Option.isNone = l.length := by
  rw [List.length_eq_countP_add_countP Option.isSome]
  congr 1
  exact List.countP_congr fun x _ => by cases x <;> simp

/-- Settles O31: each wedge's correction is the rounded scaled mean or none, and the figures count over the wedges. -/
theorem solveComputesEveryEntry : Obligations.SolveComputesEveryEntry := by
  intro s h p w v updated revolutions wedges
  have largest : v.largest =
      ((passCorrections p s).filterMap id).foldl (fun acc x => max acc (x - v.meanFold).natAbs) 0 := rfl
  refine ⟨moveOf p s, fun k _ hk => ?_, fun k _ hk => ?_, fun fold => ?_, fun flat => ?_, ?_, ?_, ?_, ?_, fun k small hk => ?_, ?_⟩
  · rw [moveOf, passCorrection_updated hk]
    have samples : 0 < (engineCell s k).count := by have := of_decide_eq_true hk; omega
    exact roundDiv_rounded _ (by omega)
  · rw [moveOf, passCorrection_thin hk]
    rfl
  · have sum : v.meanFold = roundDiv (((List.range w).map (moveOf p s)).sum) w := by
      simp only [v, computeSolve, meanFold, fold, if_true, passCorrections, List.map_map]
      rfl
    rw [sum]
    exact roundDiv_rounded _ (by omega)
  · simp [v, computeSolve, meanFold, flat]
  · show ((List.range w).map _).map clampEntry = _
    rw [List.map_map]
    exact List.map_congr_left fun k _ => clamp_eq _ _ _ (by decide)
  · exact countP_updated p s
  · show (passCorrections p s).countP Option.isSome + (passCorrections p s).countP Option.isNone = w
    rw [countP_isSome_add_isNone, passCorrections, List.length_map, List.length_range]
  · show ((List.range w).map _).countP _ = _
    rw [List.countP_map]
    refine List.countP_congr fun k _ => ?_
    simp only [Function.comp, decide_eq_true_eq, clampEntry_ne]
    rfl
  · rw [largest]
    exact (le_foldl_max (fun x : Int => (x - v.meanFold).natAbs) _ 0).2 _ (mem_moves.mpr ⟨k, small, hk, rfl⟩)
  · rw [largest]
    rcases foldl_max_mem (fun x : Int => (x - v.meanFold).natAbs) ((passCorrections p s).filterMap id) 0 with none | ⟨x, hx, reached⟩
    · exact .inl none
    · obtain ⟨k, small, hk, rfl⟩ := mem_moves.mp hx
      exact .inr ⟨k, small, hk, reached⟩

end Sys2Proof.Solves
end

section
/-! PROOFS. The slots of the defect table in the manual's words: the empty ones, the victim of an eviction, and what one write
leaves (R94, R98). -/

namespace Sys2Proof.Slots

set_option Elab.async false

open Sys2Proof.Machine Sys2Proof.Safety Sys2Proof.DefectTable Sys2Proof.Contexts

variable {t : Table DefectEntry} {h w k : Nat} {e : DefectEntry}

theorem unlisted_iff : Unlisted t h w ↔ findDefect t h w = none := findDefect_none.symm

theorem lowestEmpty_iff : LowestEmpty t k ↔ lowestEmptySlot t = some k := by
  have filled : ∀ j, Table.find? t j ≠ none ↔ (Table.find? t j).isNone = false := by
    intro j
    cases Table.find? t j <;> simp
  simp only [LowestEmpty, lowestEmptySlot, List.find?_range_eq_some, Option.isNone_iff_eq_none, List.mem_range,
    Bool.not_eq_true', filled, Config.defectSlots]
  exact ⟨fun ⟨slot, empty, lower⟩ => ⟨empty, slot, lower⟩, fun ⟨empty, slot, lower⟩ => ⟨slot, empty, lower⟩⟩

theorem full_iff : Full t ↔ lowestEmptySlot t = none := by
  simp [Full, lowestEmptySlot, Config.defectSlots]

theorem evictionVictim_none : evictionVictim t = none ↔ ∀ c ∈ t, c.2.state ≠ .suspect := by
  induction t with
  | nil => simp [evictionVictim]
  | cons c t ih =>
    obtain ⟨j, u⟩ := c
    rw [List.forall_mem_cons, ← ih, evictionVictim]
    split
    · next suspect =>
      refine ⟨fun none => ?_, fun others => absurd suspect others.1⟩
      split at none
      · split at none <;> cases none
      · cases none
    · next other => simp [other]

/-- Eviction's choice: no SUSPECT entry has a larger quiet, and none of equal quiet stands before it. -/
theorem evictionVictim_largest {v : Nat × DefectEntry} {lo : Nat} (rising : Table.rising lo t = true)
    (victim : evictionVictim t = some v) :
    ∀ c ∈ t, c.2.state = .suspect → c.2.quiet < v.2.quiet ∨ (c.2.quiet = v.2.quiet ∧ v.1 ≤ c.1) := by
  induction t generalizing lo v with
  | nil => intro c hc; cases hc
  | cons c t ih =>
    obtain ⟨j, u⟩ := c
    simp only [Table.rising, Bool.and_eq_true, decide_eq_true_eq] at rising
    have above := le_of_rising rising.2
    rw [evictionVictim] at victim
    rw [List.forall_mem_cons]
    split at victim
    · next suspect =>
      split at victim
      · next x later =>
        have rest := ih rising.2 later
        split at victim
        · next larger =>
          cases victim
          exact ⟨fun _ => .inl larger, rest⟩
        · next notLarger =>
          cases victim
          refine ⟨fun _ => .inr ⟨rfl, le_rfl⟩, fun c hc hs => ?_⟩
          have index := above c hc
          have quiet := rest c hc hs
          simp only at notLarger ⊢
          omega
      · next none =>
        cases victim
        exact ⟨fun _ => .inr ⟨rfl, le_rfl⟩, fun c hc hs => absurd hs (evictionVictim_none.mp none c hc)⟩
    · next other => exact ⟨fun hs => absurd hs other, ih rising.2 victim⟩

theorem rising_of_wf {n : Nat} {α : Type} {t : Table α} (form : Table.wf n t = true) : Table.rising 0 t = true := by
  simp only [Table.wf, Bool.and_eq_true] at form
  exact form.1

/-- The oldest entry is the one eviction takes: two such entries have equal quiet, and each the lower slot. -/
theorem evictionVictim_of_oldest {n : Nat} (form : Table.wf n t = true) (oldest : Oldest t k e) :
    evictionVictim t = some (k, e) := by
  obtain ⟨found, suspect, largest⟩ := oldest
  have rising := rising_of_wf form
  rcases victim : evictionVictim t with _ | v
  · exact absurd suspect (evictionVictim_none.mp victim _ (mem_of_find? found))
  · obtain ⟨mem, hs⟩ := Laws.evictionVictim_mem t v victim
    have one := largest v mem hs
    have other := evictionVictim_largest rising victim _ (mem_of_find? found) suspect
    have slot : v.1 = k := by simp only at other; omega
    have entry := Laws.find?_of_mem 0 rising v mem
    rw [slot, found] at entry
    cases entry
    rw [← slot]

/-! ### One slot written -/

theorem onlySlot_put (t : Table DefectEntry) (k : Nat) (e : DefectEntry) : OnlySlot t (Table.put t k e) k e :=
  ⟨Laws.find?_put_same t k e, fun _ other => Laws.find?_put_ne t e other⟩

theorem onlySlot_put_drop (t : Table DefectEntry) (k : Nat) (e : DefectEntry) :
    OnlySlot t (Table.put (Table.drop t k) k e) k e :=
  ⟨Laws.find?_put_same _ k e, fun _ other => (Laws.find?_put_ne _ e other).trans (Laws.find?_drop_ne t other)⟩

end Sys2Proof.Slots
end

section
/-! PROOFS. What requests read and take out, cell by cell and entry by entry (R41, R103 to R105, R145, R146, R149, R150). -/

namespace Sys2Proof.Requests

set_option Elab.async false

open Sys2Proof.Machine Sys2Proof.Safety Sys2Proof.Commands Sys2Proof.Actions Sys2Proof.Samples

/-! ### A request's values -/

theorem value_readRequest (code object : Byte) (q : Request) (k : Nat) : (readRequest code object q).value k = valueOf q k := by
  simp only [Mgmt.value, valueOf, readRequest, List.getD_eq_getElem?_getD, List.getElem?_map]
  cases q.values[k]? <;> rfl

@[simp] theorem readRequest_count (code object : Byte) (q : Request) : (readRequest code object q).count = q.count := rfl
@[simp] theorem readRequest_index (code object : Byte) (q : Request) : (readRequest code object q).index = q.index.toNat := rfl
@[simp] theorem readRequest_object (code object : Byte) (q : Request) : (readRequest code object q).object = object := rfl

/-- An answer changes the latch and the scheduler alone. -/
theorem answer_state (m : Mgmt) (r : Reply) (s : State) :
    answer m r s = { s with link := { s.link with latch := {} }, out := (answer m r s).out } := rfl

/-- An admitted request's next state, its action being known. -/
theorem exec_action {c : Instr} {code object : Byte} {q : Request} {s : State} (h : Admitted c code object q s) (t : State)
    (r : Reply) (act : actionOf code (readRequest code object q) s = (t, r)) :
    exec c s = .next (answer (readRequest code object q) r t) := by
  rw [exec_admitted h, act]

/-! ### The cells (R145, R149) -/

theorem item_past {items : List Int} {k : Nat} (h : items.length ≤ k) : item items k = 0 := by
  simp [item, List.getD_eq_getElem?_getD, List.getElem?_eq_none h]

theorem readSetting_eq (s : State) (k : Nat) : (readSetting s.settings k : Int) = cellValue s .setting k := by
  unfold readSetting cellValue
  split
  case h_15 => simp only [imp_false] at *; exact (item_past (by simp only [List.length_cons, List.length_nil]; omega)).symm
  all_goals rfl

theorem readHeadField_eq (s : State) (k : Nat) : readHeadField s (k / 16) (k % 16) = cellValue s .headrec k := by
  have mode : ((headRec s (k / 16)).mode.code : Int) = match (headRec s (k / 16)).mode with
      | .raw => 0
      | .corrected => 1
      | .both => 2 := by
    cases (headRec s (k / 16)).mode <;> rfl
  have source : flagCell ((headRec s (k / 16)).source == .track) = if (headRec s (k / 16)).source = .track then 1 else 0 := by
    cases (headRec s (k / 16)).source <;> rfl
  unfold readHeadField cellValue
  dsimp only
  rw [mode, source]
  generalize k % 16 = field
  split
  case h_13 => simp only [imp_false] at *; exact (item_past (by simp only [List.length_cons, List.length_nil]; omega)).symm
  all_goals rfl

theorem phase_code (p : Phase) : (p.code : Int) = (phaseByte p).toNat := by
  cases p <;> rfl

theorem readStepField_eq (s : State) (k : Nat) : readStepField (planStep s (k / 16)) (k % 16) = cellValue s .planstep k := by
  have onFail : flagCell ((planStep s (k / 16)).onFail == .stop) = if (planStep s (k / 16)).onFail = .stop then 1 else 0 := by
    cases (planStep s (k / 16)).onFail <;> rfl
  unfold readStepField cellValue
  dsimp only
  rw [phase_code, onFail]
  generalize k % 16 = field
  split
  case h_11 => simp only [imp_false] at *; exact (item_past (by simp only [List.length_cons, List.length_nil]; omega)).symm
  all_goals rfl

theorem readDefectField_eq (s : State) (k : Nat) :
    readDefectField (Table.find? s.defects (k / 4)) (k % 4) = cellValue s .defect k := by
  have small : k % 4 < 4 := Nat.mod_lt _ (by decide)
  simp only [cellValue]
  cases Table.find? s.defects (k / 4) with
  | none => rfl
  | some e =>
    simp only [readDefectField]
    split
    · next zero => rw [zero]; rfl
    · next one => rw [one]; rfl
    · next two => rw [two]; cases e.state <;> rfl
    · simp only [imp_false] at *; rw [show k % 4 = 3 by omega]; rfl

theorem orMinusOne_eq (n : Option Nat) : orMinusOne n = orNone n := by
  cases n <;> rfl

theorem readState_eq (s : State) (k : Nat) : readState s k = cellValue s .state k := by
  unfold readState
  split
  case h_16 => simp only [imp_false] at *; exact (item_past (by simp only [List.length_cons, List.length_nil]; omega)).symm
  case h_1 => simp only [cellValue]; cases s.clock.state <;> rfl
  case h_6 => exact orMinusOne_eq _
  case h_7 => simp only [cellValue]; cases s.plan.state <;> rfl
  case h_8 => exact orMinusOne_eq _
  case h_9 =>
    simp only [cellValue]
    rcases s.plan.sub with _ | _ | _ <;> rfl
  case h_10 => exact orMinusOne_eq _
  case h_11 => simp only [cellValue]; cases s.engine.pass <;> rfl
  case h_14 => simp only [cellValue]; cases s.out.budget <;> rfl
  all_goals rfl

/-- A cell read is the item of the manual's table. -/
theorem readCell_eq (s : State) (o : Obj) (k : Nat) (h : o = .alert → k < 2) : readCell s o k = cellValue s o k := by
  cases o with
  | setting => exact readSetting_eq s k
  | headrec => exact readHeadField_eq s k
  | lintab => simp only [readCell, cellValue, linPoint, Config.linPoints, Nat.div_add_mod']
  | runout => simp only [readCell, cellValue, runoutEntry, Config.wedgeCells, Nat.div_add_mod']
  | defect => exact readDefectField_eq s k
  | planstep => exact readStepField_eq s k
  | state => exact readState_eq s k
  | counter => rfl
  | alert =>
    have two := h rfl
    interval_cases k <;> rfl

/-- Settles O46. -/
theorem getAnswersTheCells : Obligations.GetAnswersTheCells := by
  intro object q s o n admitted busy known inside
  have cells : (List.range n).map (fun i => readCell s o (q.index.toNat + i)) =
      (List.range n).map fun i => cellValue s o (q.index.toNat + i) := by
    refine List.map_congr_left fun i hi => readCell_eq s o _ ?_
    rintro rfl
    have := List.mem_range.mp hi
    simp only [Obj.size] at inside
    omega
  refine exec_answered admitted s { status := .done, values := _ } ?_ busy
  show getCells _ s = _
  have count : getCount (readRequest 1 object q) = n := rfl
  simp only [getCells, readRequest_object, known, readRequest_index, count, if_neg (Nat.not_lt.mpr inside), cells]

/-! ### ALERT_CLEAR and RUNOUT_ZERO (R77, R150) -/

theorem ofInt_toInt_getLsbD (v : BitVec 32) {k : Nat} (h : k < 12) : (BitVec.ofInt 12 v.toInt).getLsbD k = v.getLsbD k := by
  have extended := BitVec.getLsbD_signExtend v (v := 12) (i := k)
  rwa [if_pos (by omega), decide_eq_true h, Bool.true_and] at extended

/-- Settles O50. -/
theorem alertClearAndRunoutZeroClearWhatTheyName : Obligations.AlertClearAndRunoutZeroClearWhatTheyName := by
  refine ⟨fun object q s admitted count busy => ?_, fun object q s h admitted count head small free busy => ?_⟩
  · have act : actionOf 8 (readRequest 8 object q) s =
        (clearAlerts (BitVec.ofInt 12 (valueOf q 0)) s, { status := .done }) := by
      show alertClearAction _ s = _
      rw [alertClearAction, value_readRequest, readRequest_count, if_neg (by omega)]
    refine ⟨_, exec_answered admitted _ _ act busy, fun k hk => ?_, rfl⟩
    show (s.alerts.flags &&& ~~~BitVec.ofInt 12 (valueOf q 0)).getLsbD k = _
    rw [BitVec.getLsbD_and, BitVec.getLsbD_not, valueOf, ofInt_toInt_getLsbD _ hk, decide_eq_true hk, Bool.true_and]
  · have value : valueOf q 0 = h := head
    have act : actionOf 9 (readRequest 9 object q) s = (zeroRunout h s, { status := .done }) := by
      show runoutZeroAction _ s = _
      rw [runoutZeroAction, value_readRequest, readRequest_count, value, if_neg (by omega), Int.toNat_natCast, free]
      rfl
    exact ⟨_, exec_answered admitted _ _ act busy, fun k w hw => runoutEntry_zeroRunout s hw, rfl⟩

/-! ### DEFECT_REMOVE and DEFECT_FLUSH (R103, R104) -/

theorem scopeMatches_iff {scope : Int} {e : DefectEntry} (low : 1 ≤ scope) (high : scope ≤ 3) :
    scopeMatches scope e = true ↔ scope = 3 ∨ (scope = 1 ↔ e.state = .static) := by
  have three : scope = 1 ∨ scope = 2 ∨ scope = 3 := by omega
  rcases three with rfl | rfl | rfl <;> simp [scopeMatches]

/-- Settles O36. -/
theorem defectRemoveAndFlushTakeOutTheNamedEntries : Obligations.DefectRemoveAndFlushTakeOutTheNamedEntries := by
  refine ⟨fun object q s h w admitted count head hh wedge hw => ?_,
    fun object q s scope head admitted count scope_eq low high head_eq hlow hhigh => ?_⟩
  · have v0 : (readRequest 6 object q).value 0 = h := (value_readRequest 6 object q 0).trans head
    have v1 : (readRequest 6 object q).value 1 = w := (value_readRequest 6 object q 1).trans wedge
    have named : namesDefect (readRequest 6 object q) = true := by
      rw [namesDefect_iff, v0, v1, readRequest_count, count]
      exact ⟨rfl, by omega, by omega, by omega, by omega⟩
    have act : actionOf 6 (readRequest 6 object q) s = (removeDefect h w s, { status := .done }) := by
      show defectRemoveAction _ s = _
      rw [defectRemoveAction, if_pos named, v0, v1]
      rfl
    refine ⟨_, exec_action admitted _ _ act, rfl, List.filter_sublist, fun c => ?_⟩
    show c ∈ List.filter _ s.defects ↔ _
    rw [List.mem_filter, Bool.not_eq_true', ← Bool.not_eq_true, Bool.and_eq_true, beq_iff_eq, beq_iff_eq]
  · have v0 : (readRequest 7 object q).value 0 = scope := (value_readRequest 7 object q 0).trans scope_eq
    have v1 : (readRequest 7 object q).value 1 = head := (value_readRequest 7 object q 1).trans head_eq
    have named : namesFlush (readRequest 7 object q) = true := by
      simp only [namesFlush, v0, v1, readRequest_count, count, Bool.and_eq_true, decide_eq_true_eq]
      exact ⟨⟨⟨⟨rfl, low⟩, high⟩, hlow⟩, hhigh⟩
    have act : actionOf 7 (readRequest 7 object q) s = (flushDefects scope head s, { status := .done }) := by
      show defectFlushAction _ s = _
      rw [defectFlushAction, if_pos named, v0, v1]
    refine ⟨_, exec_action admitted _ _ act, rfl, List.filter_sublist, fun c => ?_⟩
    show c ∈ List.filter _ s.defects ↔ _
    rw [List.mem_filter, Bool.not_eq_true', ← Bool.not_eq_true, Bool.and_eq_true, scopeMatches_iff low high, Bool.or_eq_true,
      beq_iff_eq, beq_iff_eq]

end Sys2Proof.Requests
end

section
/-! PROOFS. Which requests are refused, and with which status (R144): the executions' answers against the manual's rules. -/

namespace Sys2Proof.Refusals

set_option Elab.async false

open Sys2Proof.Machine Sys2Proof.Safety Sys2Proof.Commands Sys2Proof.Actions Sys2Proof.Requests Sys2Proof.Slots

/-! ### The manual's words -/

theorem cellCount_eq (o : Obj) : cellCount o = o.size := by
  cases o <;> rfl

theorem unwritable_iff {o : Obj} {k : Nat} : unwritable o k ↔ readOnlyCell o k = true := by
  cases o <;> simp [unwritable, readOnlyCell]

theorem stepHead_eq_some {s : State} {h : Nat} : stepHead s = some h ↔ ∃ n, s.plan.current = some n ∧ (planStep s n).head = h := by
  simp [stepHead]

theorem heldByWork_iff {s : State} {o : Obj} {k : Nat} : heldByWork s o k ↔ heldCell s o k = true := by
  cases o with
  | setting => simp [heldByWork, heldCell, Option.isSome_iff_ne_none]
  | headrec => simp [heldByWork, heldCell, stepHead_eq_some]
  | lintab => simp [heldByWork, heldCell, stepHead_eq_some, Config.linPoints]
  | runout => simp [heldByWork, heldCell, Samples.boundTo_iff, Config.wedgeCells]
  | _ => simp [heldByWork, heldCell]

variable {code object : Byte} {q : Request} {s : State}

theorem any_cells {p : Nat → Bool} : (cellsOf (readRequest code object q)).any p = true ↔
    ∃ i < q.count.toNat, p (q.index.toNat + i) = true := by
  simp [cellsOf]

theorem count_eq_zero : q.count = 0 ↔ q.count.toNat = 0 := by
  rw [← BitVec.toNat_inj]
  rfl

/-! ### Where a rule refuses, the execution does -/

/-- The execution leaves the state and answers a refusal of this code. -/
def Refuses (act : Action) (m : Mgmt) (s : State) (status : Nat) : Prop :=
  ∃ st : Status, act m s = (s, { status := st }) ∧ st.code = status ∧ 2 ≤ status

theorem setCells_refuses {o : Obj} {m : Mgmt} {st : Status} (known : objOf m.object.toNat = some o)
    (refused : setRefusal o m s = some st) : setCells m s = (s, { status := st }) := by
  simp only [setCells, known, refused]

theorem names_iff {n : Byte} : namesDefect (readRequest n object q) = true ↔
    q.count = 2 ∧ 0 ≤ valueOf q 0 ∧ valueOf q 0 ≤ 23 ∧ 0 ≤ valueOf q 1 ∧ valueOf q 1 ≤ 511 := by
  have two : q.count.toNat = 2 ↔ q.count = 2 := by rw [← BitVec.toNat_inj]; rfl
  rw [namesDefect_iff, value_readRequest, value_readRequest, readRequest_count, two]

theorem namesFlush_iff {n : Byte} : namesFlush (readRequest n object q) = true ↔
    q.count = 2 ∧ 1 ≤ valueOf q 0 ∧ valueOf q 0 ≤ 3 ∧ -1 ≤ valueOf q 1 ∧ valueOf q 1 ≤ 23 := by
  have two : q.count.toNat = 2 ↔ q.count = 2 := by rw [← BitVec.toNat_inj]; rfl
  simp [namesFlush, value_readRequest, two, and_assoc]

theorem addDefect_none {h w : Nat} (unlisted : Unlisted s.defects h w) (full : Full s.defects)
    (kept : ∀ c ∈ s.defects, c.2.state ≠ .suspect) : addDefect h w s = (s, .full) := by
  simp only [addDefect, unlisted_iff.mp unlisted, full_iff.mp full, evictionVictim_none.mpr kept]

theorem refuses_of_refused {status : Nat} (refused : Refused object q s code.toNat status) :
    Refuses (actionOf code) (readRequest code object q) s status := by
  generalize number : code.toNat = n at refused
  unfold actionOf
  rw [number]
  cases refused with
  | unknownCode _ outside =>
    refine ⟨.unknown, ?_, rfl, by decide⟩
    split
    case h_11 => rfl
    all_goals omega
  | unknownObject _ request unknown =>
    refine ⟨.unknown, ?_, rfl, by decide⟩
    rcases request with rfl | rfl
    · simp [getCells, unknown]
    · simp [setCells, unknown]
  | getRange o known outside =>
    rw [cellCount_eq] at outside
    exact ⟨.range, by simp [getCells, known, getCount, outside], rfl, by decide⟩
  | setRange o known outside =>
    refine ⟨.range, setCells_refuses known ?_, rfl, by decide⟩
    rw [cellCount_eq, count_eq_zero] at outside
    exact if_pos outside
  | setReadonly o i known inside small fixed =>
    refine ⟨.readonly, setCells_refuses known ?_, rfl, by decide⟩
    rw [cellCount_eq] at inside
    rw [setRefusal, if_neg (by simp only [readRequest_count, readRequest_index]; omega),
      if_pos (any_cells.mpr ⟨i, small, unwritable_iff.mp fixed⟩)]
  | setInuse o i known inside writable small held =>
    refine ⟨.inuse, setCells_refuses known ?_, rfl, by decide⟩
    rw [cellCount_eq] at inside
    have loose : ¬(cellsOf (readRequest code object q)).any (readOnlyCell o) = true := fun fixed => by
      obtain ⟨j, hj, hfixed⟩ := any_cells.mp fixed
      exact writable j hj (unwritable_iff.mpr hfixed)
    rw [setRefusal, if_neg (by simp only [readRequest_count, readRequest_index]; omega), if_neg loose,
      if_pos (any_cells.mpr ⟨i, small, heldByWork_iff.mp held⟩)]
  | planStartBusy running => exact ⟨.busy, if_pos running, rfl, by decide⟩
  | defectRange _ request outside =>
    refine ⟨.range, ?_, rfl, by decide⟩
    rcases request with rfl | rfl
    · simp [defectAddAction, mt names_iff.mp outside]
    · simp [defectRemoveAction, mt names_iff.mp outside]
  | defectFull h w count head hh wedge hw unlisted full kept =>
    have named : namesDefect (readRequest code object q) = true := by
      rw [namesDefect_iff, value_readRequest, value_readRequest, readRequest_count, count, head, wedge]
      exact ⟨rfl, by omega, by omega, by omega, by omega⟩
    refine ⟨.full, ?_, rfl, by decide⟩
    simp only [defectAddAction, named, if_true, value_readRequest, head, wedge, Int.toNat_natCast,
      addDefect_none unlisted full kept]
  | flushRange outside =>
    have named : ¬namesFlush (readRequest code object q) = true := fun h => outside (namesFlush_iff.mp h)
    exact ⟨.range, by simp [defectFlushAction, named], rfl, by decide⟩
  | alertClearRange none => exact ⟨.range, if_pos (count_eq_zero.mp none), rfl, by decide⟩
  | runoutZeroRange outside =>
    refine ⟨.range, if_pos ?_, rfl, by decide⟩
    rwa [value_readRequest, readRequest_count, ← count_eq_zero]
  | runoutZeroInuse b some bound head small =>
    refine ⟨.inuse, ?_, rfl, by decide⟩
    have isBound : boundTo s (valueOf q 0).toNat = true := Samples.boundTo_iff.mpr ⟨b, bound, by rw [head, Int.toNat_natCast]⟩
    have inside : ¬(q.count.toNat = 0 ∨ valueOf q 0 < 0 ∨ 23 < valueOf q 0) := by
      rintro (none | low | high)
      · exact some (count_eq_zero.mpr none)
      · omega
      · omega
    simp only [runoutZeroAction, value_readRequest, readRequest_count, inside, isBound, if_true, if_false]

/-! ### Where the execution refuses, a rule does -/

theorem refused_getCells {m : Mgmt} (request : m = readRequest code object q) (h : 2 ≤ (getCells m s).2.status.code) :
    Refused object q s 1 (getCells m s).2.status.code := by
  subst request
  unfold getCells at h ⊢
  split at h
  · next unknown => exact .unknownObject 1 (.inl rfl) unknown
  · next o known =>
    split at h
    · next outside =>
      rw [if_pos outside]
      exact .getRange o known (by rw [cellCount_eq]; exact outside)
    · exact absurd (show 2 ≤ Status.done.code from h) (by decide)

theorem refused_setRefusal {o : Obj} {st : Status} (known : objOf object.toNat = some o)
    (refused : setRefusal o (readRequest code object q) s = some st) : Refused object q s 2 st.code := by
  unfold setRefusal at refused
  simp only [readRequest_count, readRequest_index, ← count_eq_zero] at refused
  split_ifs at refused with outside fixed held
  · cases refused
    exact .setRange o known (by rwa [cellCount_eq])
  · cases refused
    obtain ⟨i, small, hi⟩ := any_cells.mp fixed
    exact .setReadonly o i known (by rw [cellCount_eq]; omega) small (unwritable_iff.mpr hi)
  · cases refused
    obtain ⟨i, small, hi⟩ := any_cells.mp held
    refine .setInuse o i known (by rw [cellCount_eq]; omega) (fun j hj hfixed => ?_) small (heldByWork_iff.mpr hi)
    exact fixed (any_cells.mpr ⟨j, hj, unwritable_iff.mp hfixed⟩)

theorem refused_setCells {m : Mgmt} (request : m = readRequest code object q) (h : 2 ≤ (setCells m s).2.status.code) :
    Refused object q s 2 (setCells m s).2.status.code := by
  subst request
  unfold setCells at h ⊢
  split at h
  · next unknown => exact .unknownObject 2 (.inr rfl) unknown
  · next o known =>
    split at h
    · next refused =>
      exact refused_setRefusal known refused
    · next values =>
      dsimp only at h
      split at h
      · exact absurd (show 2 ≤ Status.clamped.code from h) (by decide)
      · exact absurd (show 2 ≤ Status.done.code from h) (by decide)

theorem refused_defectAdd {m : Mgmt} (request : m = readRequest code object q) (h : 2 ≤ (defectAddAction m s).2.status.code) :
    Refused object q s 5 (defectAddAction m s).2.status.code := by
  subst request
  unfold defectAddAction at h ⊢
  split at h
  · next named =>
    obtain ⟨count, low, high, low', high'⟩ := names_iff.mp named
    rw [if_pos named]
    split at h
    · exact absurd (show 2 ≤ Status.done.code from h) (by decide)
    · next s' added =>
      obtain ⟨unlisted, full, kept, -⟩ := Laws.addDefect_full _ _ _ (congrArg Prod.snd added)
      rw [value_readRequest, value_readRequest] at unlisted
      exact .defectFull _ _ count (Int.toNat_of_nonneg low).symm (by omega) (Int.toNat_of_nonneg low').symm (by omega)
        (unlisted_iff.mpr unlisted) (full_iff.mpr full) (evictionVictim_none.mp kept)
  · next unnamed =>
    rw [if_neg unnamed]
    exact .defectRange 5 (.inl rfl) fun named => unnamed (names_iff.mpr named)

/-- A refusal is one of the manual's. -/
theorem refused_of_reply (h : 2 ≤ (actionOf code (readRequest code object q) s).2.status.code) :
    Refused object q s code.toNat (actionOf code (readRequest code object q) s).2.status.code := by
  generalize request : readRequest code object q = m at h ⊢
  unfold actionOf at h ⊢
  generalize number : code.toNat = n at h ⊢
  split at h
  · exact refused_getCells request.symm h
  · exact refused_setCells request.symm h
  · unfold planStartAction at h ⊢
    split at h
    · next running =>
      rw [if_pos running]
      exact .planStartBusy running
    · exact absurd (show 2 ≤ Status.done.code from h) (by decide)
  · exact absurd (show 2 ≤ Status.done.code from h) (by decide)
  · exact refused_defectAdd request.symm h
  · subst request
    unfold defectRemoveAction at h ⊢
    split at h
    · exact absurd (show 2 ≤ Status.done.code from h) (by decide)
    · next unnamed =>
      rw [if_neg unnamed]
      exact .defectRange 6 (.inr rfl) fun named => unnamed (names_iff.mpr named)
  · subst request
    unfold defectFlushAction at h ⊢
    split at h
    · exact absurd (show 2 ≤ Status.done.code from h) (by decide)
    · next unnamed =>
      rw [if_neg unnamed]
      exact .flushRange fun named => unnamed (namesFlush_iff.mpr named)
  · subst request
    unfold alertClearAction at h ⊢
    split at h
    · next none =>
      rw [if_pos none]
      exact .alertClearRange (count_eq_zero.mpr none)
    · exact absurd (show 2 ≤ Status.done.code from h) (by decide)
  · subst request
    unfold runoutZeroAction at h ⊢
    simp only [value_readRequest, readRequest_count, ← count_eq_zero] at h ⊢
    split_ifs at h ⊢ with outside bound
    · exact .runoutZeroRange outside
    · obtain ⟨b, binding, head⟩ := Samples.boundTo_iff.mp bound
      exact .runoutZeroInuse b (by tauto) binding (by omega) (by omega)
    · exact absurd (show 2 ≤ Status.done.code from h) (by decide)
  · exact absurd (show 2 ≤ Status.done.code from h) (by decide)
  · simp only [imp_false] at *
    exact .unknownCode n (by omega)

/-- Settles O49: the executions refuse where the rules do, with the rule's status, and leave the state. -/
theorem refusedRequestsChangeNothing : Obligations.RefusedRequestsChangeNothing := by
  have refuse : ∀ (c : Instr) (code object : Byte) (q : Request) (s : State) (status : Nat),
      Admitted c code object q s → Refused object q s code.toNat status → s.out.sending.isSome = true →
      exec c s = .next (answered (answerBytes code q.token status s.link.latch (attention s) object q.index []) s) := by
    intro c code object q s status admitted refused busy
    obtain ⟨st, act, rfl, -⟩ := refuses_of_refused refused
    exact exec_answered admitted s { status := st } act busy
  refine ⟨refuse, ?_⟩
  intro c code object q s reply admitted
  refine ⟨⟨fun accepted status refused => ?_, fun accepted => ?_⟩, fun refused => ?_⟩
  · obtain ⟨st, act, rfl, two⟩ := refuses_of_refused refused
    have answer : reply = { status := st } := congrArg Prod.snd act
    rw [answer] at accepted
    exact absurd accepted (Nat.not_le.mpr two)
  · by_contra refused
    exact accepted _ (refused_of_reply (Nat.not_le.mp refused))
  · exact refuse c code object q s _ admitted (refused_of_reply refused)

end Sys2Proof.Refusals
end

section
/-! PROOFS. Plan requests and step ends while a frame is being sent: the whole state they leave, reports and figures among it
(R119 to R124, R131). -/

namespace Sys2Proof.Outcomes

set_option Elab.async false

open Sys2Proof.Machine Sys2Proof.Safety Sys2Proof.Commands Sys2Proof.LinkFailures Sys2Proof.PlanSteps

/-! ### Reports behind a frame that is being sent -/

theorem be_one (v : Nat) : be 1 v = [BitVec.ofNat 8 v] := rfl

theorem reportFrame_eq (kind : Nat) (stamp : BitVec 16) (record : List Byte) :
    reportFrame kind stamp record = reportBytes (BitVec.ofNat 8 kind) stamp record := by
  simp [reportFrame, reportBytes, be_one, Config.kindReport]

/-- A state with a report behind the waiting ones. -/
def withReport (f : Frame) (s : State) : State := { s with out := { s.out with report := s.out.report ++ [f] } }

theorem offerReport_busy {s : State} (busy : s.out.sending.isSome = true) (room : s.out.report.length < 32) (kind : Nat)
    (record : List Byte) :
    offerReport kind record s = withReport (reportBytes (BitVec.ofNat 8 kind) s.clock.stamp record) s := by
  obtain ⟨f, hf⟩ := Option.isSome_iff_exists.mp busy
  rw [Laws.offerReport_waits kind record s f room hf, reportFrame_eq]
  rfl

theorem offerReport_setPlan_busy {s : State} (busy : s.out.sending.isSome = true) (room : s.out.report.length < 32) (kind : Nat)
    (record : List Byte) (p : Plan) : offerReport kind record (setPlan p s) =
      withReport (reportBytes (BitVec.ofNat 8 kind) s.clock.stamp record) (setPlan p s) :=
  offerReport_busy (s := setPlan p s) busy room kind record

/-! ### The records (R20, R131) -/

theorem stepResult_eq (n : Nat) (o : StepOutcome) (s : State) : stepResult n o s =
    resultRecord n (planStep s n).head (phaseByte (planStep s n).phase) (BitVec.ofNat 8 o.code) (stepFigures n o s).1
      (stepFigures n o s).2.1 (stepFigures n o s).2.2 := by
  have phase : be 1 (planStep s n).phase.code = [phaseByte (planStep s n).phase] := by
    cases (planStep s n).phase <;> rfl
  simp only [stepResult, resultRecord, phase, be_one o.code]

/-- The figures of every outcome but a PASSED OFFSET step's. -/
theorem stepFigures_unfinished {n : Nat} {o : StepOutcome} (s : State) (h : o ≠ .passed) :
    stepFigures n o s = unfinishedFigures s (planStep s n) := by
  unfold stepFigures unfinishedFigures
  dsimp only
  cases (planStep s n).phase with
  | offset => simp [h]
  | verify => simp [verifyMean]
  | _ => rfl

/-! ### A step's end -/

/-- The alerts once a step has ended (R123). -/
def concludedAlerts (o : StepOutcome) (s : State) : Alerts :=
  if o.failure then { s.alerts with flags := raised s.alerts.flags [10], counters := counted s 23 1 }
  else { s.alerts with flags := raised s.alerts.flags [9] }

/-- The report of a step's end. -/
def resultOf (n : Nat) (o : StepOutcome) (s : State) : Frame := reportBytes 5 s.clock.stamp (stepResult n o s)

theorem raise_eq (a : Alert) (s : State) : raise a s = { s with alerts := { s.alerts with flags := raised s.alerts.flags [a.position] } } := by
  rw [raise, weight_eq_twoPow]
  rfl

theorem unbindStep_eq (n : Nat) (s : State) : unbindStep n s = { s with engine := unboundBy n s.engine } := by
  unfold unbindStep unboundBy
  rcases s.engine.binding with _ | b
  · rfl
  · dsimp only
    split <;> rfl

/-- The state a step's end leaves before the plan advances. -/
theorem concluded_busy {s : State} (busy : s.out.sending.isSome = true) (room : s.out.report.length < 32) (n : Nat)
    (o : StepOutcome) : concluded n o s = { withReport (resultOf n o s) s with
      alerts := concludedAlerts o s
      plan := talliedPlan n o s.plan
      engine := unboundBy n s.engine } := by
  unfold concluded concludedAlerts
  dsimp only
  rw [offerReport_busy busy room, unbindStep_eq, raise_eq]
  cases o.failure
  · simp only [Bool.false_eq_true, if_false, raise_eq]
    rfl
  · rfl

/-- The state a plan's end leaves (R123). -/
theorem endPlan_busy {s : State} (busy : s.out.sending.isSome = true) (room : s.out.report.length < 32) (reason : PlanReason) :
    endPlan reason s = { withReport (reportBytes 6 s.clock.stamp
        (planEndRecord reason s.plan.ended s.plan.failed s.plan.last)) s with
      alerts := { s.alerts with flags := raised s.alerts.flags [11] }
      plan := endedPlan s.plan } := by
  rw [endPlan, offerReport_setPlan_busy busy room, raise_eq]
  rfl

theorem unboundBy_other {n : Nat} {e : Engine} (h : ∀ b, e.binding = some b → b.step ≠ n) : unboundBy n e = e := by
  unfold unboundBy
  split
  · next b bound => exact if_neg (h b bound)
  · rfl

theorem unboundBy_bound {n : Nat} {e : Engine} (h : ∃ b, e.binding = some b ∧ b.step = n) : unboundBy n e = {} := by
  obtain ⟨b, bound, step⟩ := h
  simp only [unboundBy, bound, step, if_true]

/-- The step's end ends the plan: two reports, two alerts. -/
theorem endPlan_concluded_busy {s : State} (busy : s.out.sending.isSome = true) (room : s.out.report.length ≤ 30)
    (reason : PlanReason) (n : Nat) (o : StepOutcome) : endPlan reason (concluded n o s) = { s with
      plan := endedPlan (talliedPlan n o s.plan)
      engine := unboundBy n s.engine
      alerts := { concludedAlerts o s with flags := raised (concludedAlerts o s).flags [11] }
      out := { s.out with report := s.out.report ++ [resultOf n o s, reportBytes 6 s.clock.stamp (planEndRecord reason
        (s.plan.ended + 1) (if o.failure then s.plan.failed + 1 else s.plan.failed) (some n))] } } := by
  have room' : (s.out.report ++ [resultOf n o s]).length < 32 := by
    rw [List.length_append, List.length_singleton]
    omega
  rw [concluded_busy busy (by omega), endPlan_busy (s := { withReport (resultOf n o s) s with
    alerts := concludedAlerts o s
    plan := talliedPlan n o s.plan
    engine := unboundBy n s.engine }) busy room']
  simp only [withReport, List.append_assoc, List.singleton_append]
  rfl

/-! ### PLAN_START and PLAN_STOP (R119, R124) -/

/-- Settles O40. -/
theorem planStartEntersStepZero : Obligations.PlanStartEntersStepZero := by
  intro object q s admitted idle busy
  have act : actionOf 3 (readRequest 3 object q) s = (startPlan s, { status := .done }) := if_neg idle
  refine ⟨fun some => ?_, fun none room => ?_⟩
  · have start : startPlan s = enterStep 0 (setPlan { s.plan with state := .running, ended := 0, failed := 0, last := none } s) :=
      if_neg some
    rw [start] at act
    rw [exec_answered admitted _ _ act busy]
    rfl
  · have start : startPlan s = { withReport (reportBytes 6 s.clock.stamp [1, 0, 0, 0]) s with
        alerts := { s.alerts with flags := raised s.alerts.flags [11] }
        plan := { s.plan with state := .ended, current := .none, sub := .none } } := by
      unfold startPlan
      rw [if_pos none]
      dsimp only
      rw [offerReport_setPlan_busy busy room, raise_eq]
      rfl
    rw [start] at act
    exact ⟨_, exec_answered admitted _ _ act busy, rfl, rfl, rfl, rfl, rfl, rfl⟩

/-- Settles O42. -/
theorem planStopAbortsTheStep : Obligations.PlanStopAbortsTheStep := by
  intro object q s p figures admitted busy
  refine ⟨fun n running current room => ?_, fun idle => ?_⟩
  · have figs : stepFigures n .aborted s = figures n := stepFigures_unfinished s (by decide)
    have result : resultOf n .aborted s = reportBytes 5 s.clock.stamp (resultRecord n (p n).head (phaseByte (p n).phase) 8
        (figures n).1 (figures n).2.1 (figures n).2.2) := by
      rw [resultOf, stepResult_eq, figs]
      rfl
    have act : actionOf 4 (readRequest 4 object q) s = (endPlan .stopped (concluded n .aborted s), { status := .done }) := by
      show (stopPlan s, _) = _
      rw [stopPlan_running running current, endStep_eq]
      rfl
    rw [endPlan_concluded_busy busy room, result] at act
    exact ⟨_, exec_answered admitted _ _ act busy, rfl, unboundBy_other, unboundBy_bound, rfl, rfl, rfl⟩
  · have act : actionOf 4 (readRequest 4 object q) s = (s, { status := .done }) := by
      show (stopPlan s, _) = _
      rw [Laws.stopPlan_idle s idle]
    rw [exec_answered admitted _ _ act busy]
    rfl

/-! ### The wait timer (R120) -/

/-- In WAITING the registers are clear, and the timer runs there alone. -/
theorem unfinishedFigures_waiting {s : State} {n : Nat} (held : PlanHeld s) (timer : s.plan.waitTimer.isSome = true)
    (other : (planStep s n).phase ≠ .learn) : unfinishedFigures s (planStep s n) =
      (0, if (planStep s n).phase = .offset then effectiveOffset s (planStep s n).head else 0, 0) := by
  have waiting : s.plan.sub = some .waiting := by
    by_contra sub
    rw [held.noTimer sub] at timer
    cases timer
  have regs := held.cleared waiting
  unfold unfinishedFigures
  cases phase : (planStep s n).phase with
  | learn => exact absurd phase other
  | _ => simp [regs]

/-- Settles O43. -/
theorem waitTimeoutFailsTheStep : Obligations.WaitTimeoutFailsTheStep := by
  refine ⟨fun s stopped => congrArg Host.Outcome.next (Laws.waitTimerExpiry_stopped s stopped), ?_⟩
  intro s n timer current busy room stop noNext p figures result
  refine ⟨fun held other => unfinishedFigures_waiting held timer other, ?_⟩
  obtain ⟨ms, running⟩ := Option.isSome_iff_exists.mp timer
  have figs : stepFigures n .timeoutWait s = figures := stepFigures_unfinished s (by decide)
  have result_eq : resultOf n .timeoutWait s = result := by
    rw [resultOf, stepResult_eq, figs]
    rfl
  have expiry : exec .timeoutWait s = .next (endStep n .timeoutWait s) :=
    congrArg Host.Outcome.next (Laws.waitTimerExpiry_running s ms n running current)
  have entered : ¬stop → ¬noNext → endStep n .timeoutWait s = enterStep (n + 1) (concluded n .timeoutWait s) := by
    intro goOn next
    refine (endStep_eq _ _ s).trans (advance_next ?_)
    rw [(concluded_fields n .timeoutWait s).2.2]
    rintro (aborted | ⟨-, stops⟩ | last)
    · cases aborted
    · exact goOn stops
    · exact next last
  have ended : stop ∨ noNext → ∃ reason : PlanReason, (stop → reason = .failed) ∧ (¬stop → reason = .complete) ∧
      endStep n .timeoutWait s = endPlan reason (concluded n .timeoutWait s) := by
    intro ends
    have steps : ∀ k, planStep (concluded n .timeoutWait s) k = planStep s k := by simp [planStep]
    rw [endStep_eq]
    rcases Laws.advance_cases n .timeoutWait (concluded n .timeoutWait s) with
      ⟨aborted, -⟩ | ⟨-, -, stops, e⟩ | ⟨-, goOn, -, e⟩ | ⟨-, goOn, next, -⟩
    · cases aborted
    · rw [steps] at stops
      exact ⟨.failed, fun _ => rfl, fun goOn => absurd stops goOn, e⟩
    · rw [steps] at goOn
      exact ⟨.complete, fun stops => absurd ⟨rfl, stops⟩ goOn, fun _ => rfl, e⟩
    · rw [steps] at goOn next
      exact absurd ends (not_or.mpr ⟨fun stops => goOn ⟨rfl, stops⟩, next⟩)
  by_cases ends : stop ∨ noNext
  · obtain ⟨reason, stops, goesOn, e⟩ := ended ends
    rw [e, endPlan_concluded_busy busy room, result_eq] at expiry
    refine ⟨_, expiry, fun _ => ⟨rfl, rfl, BitVec.ofNat 8 reason.code, fun h => by rw [stops h]; rfl,
      fun h => by rw [goesOn h]; rfl, rfl⟩, fun goOn next => absurd ends (not_or.mpr ⟨goOn, next⟩), unboundBy_other,
      unboundBy_bound, rfl⟩
  · obtain ⟨goOn, next⟩ := not_or.mp ends
    rw [entered goOn next, concluded_busy busy (by omega), result_eq] at expiry
    exact ⟨_, expiry, fun h => absurd h ends, fun _ _ => ⟨rfl, rfl, rfl⟩, unboundBy_other, unboundBy_bound, rfl⟩

end Sys2Proof.Outcomes
end

section
/-! PROOFS. DEFECT_NOTICEs and DEFECT_ADD (R98, R100, R102, R138, R139). -/

namespace Sys2Proof.DefectNotices

set_option Elab.async false

open Sys2Proof.Machine Sys2Proof.Safety Sys2Proof.Commands Sys2Proof.Actions Sys2Proof.Traffic Sys2Proof.LinkFailures
  Sys2Proof.Slots Sys2Proof.Requests Sys2Proof.Outcomes

/-! ### One notice -/

theorem defectNotice_eq (event : DefectEvent) (slot : Nat) (e : DefectEntry) : defectNotice event slot e =
    defectRecord (BitVec.ofNat 8 event.code) e.head e.wedge slot (BitVec.ofNat 8 event.stateCode) e.hits e.quiet := rfl

/-- An offer changes the scheduler and the alerts alone. -/
theorem offerDefectNotice_state (record : List Byte) (s : State) : offerDefectNotice record s =
    { s with out := (offerDefectNotice record s).out, alerts := (offerDefectNotice record s).alerts } := by
  unfold offerDefectNotice offerReport
  split
  · split <;> rfl
  · rfl
  · dsimp only
    split <;> rfl

/-- The budget after a test (R139). -/
def spent : Budget → Budget
  | .unlimited => .unlimited
  | .left n => .left (n - 1)

/-- A notice the budget passes is offered as a report. -/
theorem offerDefectNotice_passed {s : State} (passes : s.out.budget ≠ .left 0) (record : List Byte) :
    offerDefectNotice record s = offerReport 3 record { s with out := { s.out with budget := spent s.out.budget } } := by
  unfold offerDefectNotice
  split
  · next unlimited =>
    have same : { s with out := { s.out with budget := spent s.out.budget } } = s := by
      rw [unlimited]
      show { s with out := { s.out with budget := Budget.unlimited } } = s
      rw [← unlimited]
    rw [same]
  · next refused => exact absurd refused passes
  · next n left => rw [left]; rfl

theorem readCounter_drop (s : State) (c : Counter) (k : Nat) : readCounter (bump c s) k =
    if k = c.index then saturated (readCounter s c.index) 1 else readCounter s k := Laws.readCounter_bump c k s

/-- One notice while a frame is being sent (R138, R139). -/
theorem noticed_offer {s : State} (busy : s.out.sending.isSome = true) (record : List Byte) :
    Noticed s.clock.stamp record s (offerDefectNotice record s) ∧ (offerDefectNotice record s).out =
      { s.out with
        report := (offerDefectNotice record s).out.report
        budget := (offerDefectNotice record s).out.budget } := by
  by_cases refused : s.out.budget = .left 0
  · rw [Laws.offerDefectNotice_refused record s refused]
    refine ⟨?_, rfl⟩
    constructor <;> simp [refused, readCounter_drop, Counter.index]
  · rw [offerDefectNotice_passed refused]
    rcases Nat.lt_or_ge s.out.report.length 32 with room | full
    · rw [offerReport_busy (s := { s with out := { s.out with budget := spent s.out.budget } }) busy room]
      refine ⟨?_, rfl⟩
      refine ⟨rfl, fun h => absurd h refused, fun _ => rfl, fun _ _ => rfl, fun _ h => absurd room (Nat.not_lt.mpr h),
        fun _ => ⟨rfl, rfl⟩⟩
    · rw [Laws.offerReport_full 3 record { s with out := { s.out with budget := spent s.out.budget } } full]
      have counters : ∀ k, readCounter (raise .reportOverflow (bump .reportDrop
          { s with out := { s.out with budget := spent s.out.budget } })) k =
          if k = 15 then saturated (readCounter s 15) 1 else readCounter s k := fun k => readCounter_drop _ .reportDrop k
      refine ⟨⟨rfl, fun h => absurd h refused, fun _ => ?_, fun _ h => absurd h (Nat.not_lt.mpr full), fun _ _ => ⟨rfl, ?_, ?_⟩,
        fun h => ?_⟩, rfl⟩
      · exact counters 17
      · simp [Alert.weight, Alert.position]
      · exact counters 15
      · rcases h with h | h
        · exact absurd h refused
        · exact absurd h (Nat.not_lt.mpr full)

/-! ### What else happens around a notice -/

theorem notNoticed_refl (s : State) : NotNoticed s s := ⟨⟨rfl, rfl⟩, rfl, rfl, rfl⟩

theorem notNoticed_trans {s t u : State} (h : NotNoticed s t) (h' : NotNoticed t u) : NotNoticed s u := by
  obtain ⟨⟨budget, report⟩, flag, drops, refusals⟩ := h
  obtain ⟨⟨budget', report'⟩, flag', drops', refusals'⟩ := h'
  exact ⟨⟨budget'.trans budget, report'.trans report⟩, flag'.trans flag, drops'.trans drops, refusals'.trans refusals⟩

/-- A notice with nothing of its kind before and after it. -/
theorem noticed_within {stamp : BitVec 16} {record : List Byte} {s s' t t' : State} (h : Noticed stamp record s t)
    (before : NotNoticed s' s) (after : NotNoticed t t') : Noticed stamp record s' t' := by
  obtain ⟨⟨budget, report⟩, flag, drops, refusals⟩ := before
  obtain ⟨⟨budget', report'⟩, flag', drops', refusals'⟩ := after
  have spends := h.budget
  have refused := h.refused
  have passed := h.passed
  have admitted := h.admitted
  have dropped := h.dropped
  have noOverflow := h.noOverflow
  rw [budget] at spends refused passed admitted dropped noOverflow
  rw [report] at refused admitted dropped noOverflow
  rw [refusals] at refused passed
  rw [drops] at dropped noOverflow
  rw [flag] at noOverflow
  refine ⟨?_, ?_, ?_, ?_, ?_, ?_⟩
  · rw [budget', spends]
  · rw [report', refusals']; exact refused
  · rw [refusals']; exact passed
  · rw [report']; exact admitted
  · rw [report', flag', drops']; exact dropped
  · rw [flag', drops']; exact noOverflow

/-- What counts, raises and reports nothing of the kind. -/
theorem notNoticed_of_carried {F : Footprint} {s t : State} (h : Carried F s t) (busy : s.out.sending.isSome = true)
    (quiet : Counter.reportDrop ∉ F.counters ∧ Counter.budgetDrop ∉ F.counters ∧ Alert.reportOverflow ∉ F.alerts ∧
      F.report = false ∧ F.budget = false) : NotNoticed s t := by
  obtain ⟨drops, refusals, flag, report, budget⟩ := quiet
  obtain ⟨f, hf⟩ := Option.isSome_iff_exists.mp busy
  exact ⟨⟨h.budget_eq budget, h.report_eq report hf⟩, h.flag_eq flag, h.counter_eq drops, h.counter_eq refusals⟩

/-! ### DEFECT_ADD (R102) -/

section
variable {object : Byte} {q : Request} {s : State} {h w : Nat}

theorem defectAdd_action (count : q.count = 2) (head : valueOf q 0 = h) (hh : h ≤ 23) (wedge : valueOf q 1 = w) (hw : w ≤ 511)
    {t : State} (added : addDefect h w s = (t, .done)) :
    actionOf 5 (readRequest 5 object q) s = (t, { status := .done }) := by
  have named : namesDefect (readRequest 5 object q) = true := by
    rw [namesDefect_iff, value_readRequest, value_readRequest, readRequest_count, count, head, wedge]
    exact ⟨rfl, by omega, by omega, by omega, by omega⟩
  show defectAddAction _ s = _
  simp only [defectAddAction, named, if_true, value_readRequest, head, wedge, Int.toNat_natCast, added]

theorem addDefect_found {k : Nat} {e : DefectEntry} (found : findDefect s.defects h w = some (k, e)) :
    addDefect h w s = (setDefects (Table.put s.defects k { e with state := .static }) s, .done) := by
  simp only [addDefect, found]

theorem addDefect_empty {k : Nat} (unlisted : Unlisted s.defects h w) (empty : LowestEmpty s.defects k) :
    addDefect h w s = (placeStatic k h w s, .done) := by
  simp only [addDefect, unlisted_iff.mp unlisted, lowestEmpty_iff.mp empty]

theorem addDefect_evicts {k : Nat} {e : DefectEntry} (form : Table.wf 256 s.defects = true) (unlisted : Unlisted s.defects h w)
    (full : Full s.defects) (oldest : Oldest s.defects k e) : addDefect h w s = (placeStatic k h w (evict (k, e) s), .done) := by
  simp only [addDefect, unlisted_iff.mp unlisted, full_iff.mp full, evictionVictim_of_oldest form oldest]
end

/-- An eviction changes the table, the scheduler and the alerts alone. -/
theorem evict_state (k : Nat) (e : DefectEntry) (s : State) : evict (k, e) s =
    { s with defects := Table.drop s.defects k, out := (evict (k, e) s).out, alerts := (evict (k, e) s).alerts } :=
  offerDefectNotice_state (defectNotice .evicted k e) (setDefects (Table.drop s.defects k) s)

/-- Settles O35: the three places an entry can take. -/
theorem defectAddMakesAStaticEntry : Obligations.DefectAddMakesAStaticEntry := by
  intro object q s h w done fresh alone admitted count head hh wedge hw form
  refine ⟨fun k e found => ?_, fun k unlisted empty => ?_, fun k e unlisted full oldest => ?_⟩
  · refine ⟨_, exec_action admitted _ _ (defectAdd_action count head hh wedge hw (addDefect_found found)), onlySlot_put _ _ _, rfl,
      fun busy => ?_⟩
    exact answer_eq_answered 5 object q _ _ busy
  · refine ⟨_, exec_action admitted _ _ (defectAdd_action count head hh wedge hw (addDefect_empty unlisted empty)),
      onlySlot_put _ _ _, rfl, fun busy => ?_⟩
    exact answer_eq_answered 5 object q _ _ busy
  · refine ⟨_, exec_action admitted _ _ (defectAdd_action count head hh wedge hw (addDefect_evicts form unlisted full oldest)), ?_, ?_,
      fun busy => ?_⟩
    · have table : (evict (k, e) s).defects = Table.drop s.defects k := DefectTable.evict_defects _ _
      show OnlySlot s.defects (Table.put (evict (k, e) s).defects k fresh) k fresh
      rw [table]
      exact onlySlot_put_drop _ _ _
    · rw [evict_state k e s]
      rfl
    · obtain ⟨noticed, out⟩ := noticed_offer (s := setDefects (Table.drop s.defects k) s) busy (defectNotice .evicted k e)
      have evicted := evict_state k e s
      generalize hu : evict (k, e) s = u at evicted
      rw [show offerDefectNotice (defectNotice .evicted k e) (setDefects (Table.drop s.defects k) s) = u from hu] at noticed out
      have sending : u.out.sending.isSome = true := by rw [out]; exact busy
      rw [answer_eq_answered 5 object q _ (placeStatic k h w u) sending]
      refine ⟨noticed_within noticed ⟨⟨rfl, rfl⟩, rfl, rfl, rfl⟩ ⟨⟨rfl, rfl⟩, rfl, rfl, rfl⟩, ?_⟩
      have latch : u.link.latch = s.link.latch := by rw [evicted]
      show { u.out with answer := u.out.answer ++ [answerBytes 5 q.token 0 u.link.latch (attention u) object q.index []] } = _
      rw [latch, out]
      rfl

end Sys2Proof.DefectNotices
end

section
/-! PROOFS. The Off-Track Monitor: the table of its transitions, what they announce, and the runs of frames they need (R109 to
R113). -/

namespace Sys2Proof.Monitors

set_option Elab.async false

open Sys2Proof.Machine Sys2Proof.Safety Sys2Proof.Traffic Sys2Proof.Contexts Sys2Proof.Outcomes Sys2Proof.LinkFailures

variable {s : State} {h w : Nat} {eOut : Int}

/-- The step of a head's monitor at a counted frame (R111). -/
def stepOf (s : State) (h : Nat) (eOut : Int) : MonStep :=
  monitorStep s.settings (decide (s.settings.threshold < eOut.natAbs)) (headContext s h)

theorem monitorCount_headContext (h w : Nat) (eOut : Int) (s : State) (k : Nat) :
    headContext (monitorCount h w eOut s).1 k =
      if k = h then { headContext s h with monitor := (stepOf s h eOut).state, run := (stepOf s h eOut).run }
      else headContext s k := by
  rw [headContext, monitorCount_contexts, Laws.get_set]
  rfl

theorem monitorCount_transition (h w : Nat) (eOut : Int) (s : State) :
    (monitorCount h w eOut s).2 = (stepOf s h eOut).transition := rfl

/-! ### Alerts and notices (R112, R113) -/

/-- The monitor's state before it offers its notice. -/
def alerted (h : Nat) (eOut : Int) (s : State) : State :=
  let s₁ := setHeadContext h { headContext s h with monitor := (stepOf s h eOut).state, run := (stepOf s h eOut).run } s
  if monitorRaises s.settings.triggerMode (stepOf s h eOut) then raise .offtrack s₁ else s₁

theorem monitorCount_state (h w : Nat) (eOut : Int) (s : State) : (monitorCount h w eOut s).1 =
    if monitorNotifies s.settings.triggerMode (stepOf s h eOut).transition
    then offerReport 4 (offtrackNotice (stepOf s h eOut).transition h w eOut) (alerted h eOut s) else alerted h eOut s := rfl

theorem alerted_out (h : Nat) (eOut : Int) (s : State) :
    (alerted h eOut s).out = s.out ∧ (alerted h eOut s).clock = s.clock ∧
      ∀ k, readCounter (alerted h eOut s) k = readCounter s k := by
  unfold alerted
  dsimp only
  split <;> exact ⟨rfl, rfl, fun _ => rfl⟩

theorem alerted_flag (h : Nat) (eOut : Int) (s : State) : (alerted h eOut s).alerts.flags.getLsbD 2 =
    (s.alerts.flags.getLsbD 2 || monitorRaises s.settings.triggerMode (stepOf s h eOut)) := by
  unfold alerted
  dsimp only
  split
  · next raises => simp [raises, Alert.weight, Alert.position]
  · next quiet => simp [quiet]

/-- A report's overflow alert is another one. -/
theorem offerReport_offtrack (k : Nat) (r : List Byte) (s : State) :
    (offerReport k r s).alerts.flags.getLsbD 2 = s.alerts.flags.getLsbD 2 :=
  (offerReport_carried k r s).flag_eq (a := .offtrack) (by decide)

theorem notifies_iff (mode : Nat) (t : Transition) : monitorNotifies mode t = true ↔
    (t = .trip ∧ (mode = 0 ∨ mode = 2 ∨ mode = 3)) ∨ (t = .release ∧ (mode = 1 ∨ mode = 2)) := by
  cases t <;> simp [monitorNotifies, or_assoc]

theorem raises_iff (mode : Nat) (m : MonStep) : monitorRaises mode m = true ↔
    monitorNotifies mode m.transition = true ∨ (mode = 3 ∧ m.transition = .none ∧ m.state = .tripped) := by
  unfold monitorRaises monitorNotifies
  cases m.transition <;> simp

theorem offtrackNotice_eq {t : Transition} (announced : t ≠ .none) (h w : Nat) (eOut : Int) :
    offtrackNotice t h w eOut = [if t = .trip then 1 else 2] ++ be 1 h ++ be 2 w ++ be 2 eOut.natAbs := by
  cases t with
  | none => exact absurd rfl announced
  | trip | release => rfl

/-! ### Runs of frames (R111) -/

/-- The monitor has counted `j` beyond frames in a row and not tripped. -/
def Counting (c : HeadContext) (j : Nat) : Prop := (c.monitor = .clear ∧ j = 0) ∨ (c.monitor = .pending ∧ c.run = j)

theorem stepOf_counting {j : Nat} (counting : Counting (headContext s h) j) (beyond : s.settings.threshold < eOut.natAbs) :
    (s.settings.tripCount ≤ j + 1 → (stepOf s h eOut).state = .tripped) ∧
      (j + 1 < s.settings.tripCount → (stepOf s h eOut).state = .pending ∧ (stepOf s h eOut).run = j + 1) := by
  unfold stepOf
  rw [decide_eq_true beyond]
  rcases counting with ⟨clear, rfl⟩ | ⟨pending, rfl⟩
  · refine ⟨fun reached => ?_, fun below => ?_⟩
    · simp only [monitorStep, clear, if_pos reached]
    · simp [monitorStep, clear, Nat.not_le.mpr below]
  · refine ⟨fun reached => ?_, fun below => ?_⟩
    · simp only [monitorStep, pending, if_pos reached]
    · simp [monitorStep, pending, Nat.not_le.mpr below]

theorem stepOf_tripped_beyond (tripped : (headContext s h).monitor = .tripped) (beyond : s.settings.threshold < eOut.natAbs) :
    (stepOf s h eOut).state = .tripped := by
  simp [stepOf, monitorStep, tripped, beyond]

theorem stepOf_tripped_within (tripped : (headContext s h).monitor = .tripped) (within : eOut.natAbs ≤ s.settings.threshold) :
    (s.settings.releaseCount ≤ (headContext s h).run + 1 → (stepOf s h eOut).state = .clear) ∧
      ((headContext s h).run + 1 < s.settings.releaseCount →
        (stepOf s h eOut).state = .tripped ∧ (stepOf s h eOut).run = (headContext s h).run + 1) := by
  unfold stepOf
  rw [decide_eq_false (Nat.not_lt.mpr within)]
  refine ⟨fun reached => ?_, fun below => ?_⟩
  · simp only [monitorStep, tripped, if_pos reached]
  · simp [monitorStep, tripped, Nat.not_le.mpr below]

theorem stepOf_clear_within (clear : (headContext s h).monitor = .clear) (within : eOut.natAbs ≤ s.settings.threshold) :
    (stepOf s h eOut).state = .clear := by
  simp [stepOf, monitorStep, clear, Nat.not_lt.mpr within]

/-- The state after frames of one head and wedge, by their errors. -/
def countAll (h w : Nat) (errors : List Int) (s : State) : State := errors.foldl (fun s x => (monitorCount h w x s).1) s

/-- The head's monitor after one counted frame. -/
theorem monitorCount_monitor (h w : Nat) (eOut : Int) (s : State) :
    (headContext (monitorCount h w eOut s).1 h).monitor = (stepOf s h eOut).state ∧
      (headContext (monitorCount h w eOut s).1 h).run = (stepOf s h eOut).run := by
  rw [monitorCount_headContext, if_pos rfl]
  exact ⟨rfl, rfl⟩

theorem tripped_countAll (errors : List Int) (beyond : ∀ x ∈ errors, s.settings.threshold < x.natAbs)
    (tripped : (headContext s h).monitor = .tripped) : (headContext (countAll h w errors s) h).monitor = .tripped := by
  induction errors generalizing s with
  | nil => exact tripped
  | cons x errors ih =>
    obtain ⟨first, rest⟩ := List.forall_mem_cons.mp beyond
    refine ih (s := (monitorCount h w x s).1) (by simpa using rest) ?_
    rw [(monitorCount_monitor h w x s).1]
    exact stepOf_tripped_beyond tripped first

theorem clear_countAll (errors : List Int) (within : ∀ x ∈ errors, x.natAbs ≤ s.settings.threshold)
    (clear : (headContext s h).monitor = .clear) : (headContext (countAll h w errors s) h).monitor = .clear := by
  induction errors generalizing s with
  | nil => exact clear
  | cons x errors ih =>
    obtain ⟨first, rest⟩ := List.forall_mem_cons.mp within
    refine ih (s := (monitorCount h w x s).1) (by simpa using rest) ?_
    rw [(monitorCount_monitor h w x s).1]
    exact stepOf_clear_within clear first

/-- It takes D_t beyond frames in a row to trip. -/
theorem counting_countAll (errors : List Int) {j : Nat} (beyond : ∀ x ∈ errors, s.settings.threshold < x.natAbs)
    (counting : Counting (headContext s h) j) (some : errors ≠ []) :
    (j + errors.length < s.settings.tripCount → (headContext (countAll h w errors s) h).monitor = .pending ∧
        (headContext (countAll h w errors s) h).run = j + errors.length) ∧
      (s.settings.tripCount ≤ j + errors.length → (headContext (countAll h w errors s) h).monitor = .tripped) := by
  induction errors generalizing s j with
  | nil => exact absurd rfl some
  | cons x errors ih =>
    obtain ⟨first, rest⟩ := List.forall_mem_cons.mp beyond
    obtain ⟨trips, waits⟩ := stepOf_counting counting first
    obtain ⟨monitor, run⟩ := monitorCount_monitor h w x s
    have rest' : ∀ y ∈ errors, (monitorCount h w x s).1.settings.threshold < y.natAbs := by simpa using rest
    rw [List.length_cons]
    rcases Nat.lt_or_ge (j + 1) s.settings.tripCount with below | reached
    · obtain ⟨state, count⟩ := waits below
      rw [state] at monitor
      rw [count] at run
      by_cases last : errors = []
      · subst last
        exact ⟨fun _ => ⟨monitor, run⟩, fun reached => absurd reached (Nat.not_le.mpr below)⟩
      · obtain ⟨waiting, tripping⟩ := ih rest' (.inr ⟨monitor, run⟩) last
        simp only [Laws.monitorCount_frame] at waiting tripping
        rw [show j + (errors.length + 1) = j + 1 + errors.length by omega]
        exact ⟨waiting, tripping⟩
    · rw [trips reached] at monitor
      exact ⟨fun below => by omega, fun _ => tripped_countAll errors rest' monitor⟩

/-- From a trip it takes D_r within frames in a row to release. -/
theorem releasing_countAll (errors : List Int) {j : Nat} (within : ∀ x ∈ errors, x.natAbs ≤ s.settings.threshold)
    (tripped : (headContext s h).monitor = .tripped) (run : (headContext s h).run = j) (some : errors ≠ []) :
    (j + errors.length < s.settings.releaseCount → (headContext (countAll h w errors s) h).monitor = .tripped ∧
        (headContext (countAll h w errors s) h).run = j + errors.length) ∧
      (s.settings.releaseCount ≤ j + errors.length → (headContext (countAll h w errors s) h).monitor = .clear) := by
  induction errors generalizing s j with
  | nil => exact absurd rfl some
  | cons x errors ih =>
    subst run
    obtain ⟨first, rest⟩ := List.forall_mem_cons.mp within
    obtain ⟨releases, waits⟩ := stepOf_tripped_within tripped first
    obtain ⟨monitor, run⟩ := monitorCount_monitor h w x s
    have rest' : ∀ y ∈ errors, y.natAbs ≤ (monitorCount h w x s).1.settings.threshold := by simpa using rest
    rw [List.length_cons]
    rcases Nat.lt_or_ge ((headContext s h).run + 1) s.settings.releaseCount with below | reached
    · obtain ⟨state, count⟩ := waits below
      rw [state] at monitor
      rw [count] at run
      by_cases last : errors = []
      · subst last
        exact ⟨fun _ => ⟨monitor, run⟩, fun reached => absurd reached (Nat.not_le.mpr below)⟩
      · obtain ⟨waiting, releasing⟩ := ih rest' monitor run last
        simp only [Laws.monitorCount_frame] at waiting releasing
        rw [show (headContext s h).run + (errors.length + 1) = (headContext s h).run + 1 + errors.length by omega]
        exact ⟨waiting, releasing⟩
    · rw [releases reached] at monitor
      exact ⟨fun below => by omega, fun _ => clear_countAll errors rest' monitor⟩

/-! ### The statement -/

/-- The table of R111, row by row. -/
theorem monitorStep_table (set : Settings) (beyond : Bool) (c : HeadContext) :
    let m := monitorStep set beyond c
    (c.monitor = .clear → beyond = false → m = ⟨.clear, 0, .none⟩) ∧
    (c.monitor = .clear → beyond = true → set.tripCount ≤ 1 → m = ⟨.tripped, 0, .trip⟩) ∧
    (c.monitor = .clear → beyond = true → 1 < set.tripCount → m = ⟨.pending, 1, .none⟩) ∧
    (c.monitor = .pending → beyond = false → m = ⟨.clear, 0, .none⟩) ∧
    (c.monitor = .pending → beyond = true → set.tripCount ≤ c.run + 1 → m = ⟨.tripped, 0, .trip⟩) ∧
    (c.monitor = .pending → beyond = true → c.run + 1 < set.tripCount → m = ⟨.pending, c.run + 1, .none⟩) ∧
    (c.monitor = .tripped → beyond = false → set.releaseCount ≤ c.run + 1 → m = ⟨.clear, 0, .release⟩) ∧
    (c.monitor = .tripped → beyond = false → c.run + 1 < set.releaseCount → m = ⟨.tripped, c.run + 1, .none⟩) ∧
    (c.monitor = .tripped → beyond = true → m = ⟨.tripped, 0, .none⟩) := by
  intro m
  refine ⟨?_, ?_, ?_, ?_, ?_, ?_, ?_, ?_, ?_⟩
  · intro monitor within; simp only [m, monitorStep, monitor, within]
  · intro monitor out reached; simp only [m, monitorStep, monitor, out, if_pos reached]
  · intro monitor out below; simp only [m, monitorStep, monitor, out, if_neg (Nat.not_le.mpr below)]
  · intro monitor within; simp only [m, monitorStep, monitor, within]
  · intro monitor out reached; simp only [m, monitorStep, monitor, out, if_pos reached]
  · intro monitor out below; simp only [m, monitorStep, monitor, out, if_neg (Nat.not_le.mpr below)]
  · intro monitor within reached; simp only [m, monitorStep, monitor, within, if_pos reached]
  · intro monitor within below; simp only [m, monitorStep, monitor, within, if_neg (Nat.not_le.mpr below)]
  · intro monitor out; simp only [m, monitorStep, monitor, out]

/-- Settles O39. -/
theorem monitorNeedsARunOfFrames : Obligations.MonitorNeedsARunOfFrames := by
  refine ⟨fun s h w eOut => ?_, fun s h w errors => ?_⟩
  · obtain ⟨clear, trip₁, pend₁, back, trip, pend, release, hold, stay⟩ :=
      monitorStep_table s.settings (decide (s.settings.threshold < eOut.natAbs)) (headContext s h)
    obtain ⟨monitor, run⟩ := monitorCount_monitor h w eOut s
    have transition := monitorCount_transition h w eOut s
    have row : ∀ {m : MonStep}, stepOf s h eOut = m →
        (headContext (monitorCount h w eOut s).1 h).monitor = m.state ∧
          (headContext (monitorCount h w eOut s).1 h).run = m.run ∧ (monitorCount h w eOut s).2 = m.transition := by
      rintro _ rfl
      exact ⟨monitor, run, transition⟩
    refine ⟨fun c b => row (clear c (decide_eq_false b)), fun c b r => row (trip₁ c (decide_eq_true b) r),
      fun c b r => row (pend₁ c (decide_eq_true b) r), fun c b => row (back c (decide_eq_false b)),
      fun c b r => row (trip c (decide_eq_true b) r), fun c b r => row (pend c (decide_eq_true b) r),
      fun c b r => row (release c (decide_eq_false b) r), fun c b r => row (hold c (decide_eq_false b) r),
      fun c b => row (stay c (decide_eq_true b)), fun k other => ?_, ?_⟩
    · rw [monitorCount_headContext, if_neg other]
    · intro mode announced raises notice
      obtain ⟨out, clock, counters⟩ := alerted_out h eOut s
      have state := monitorCount_state h w eOut s
      have announces : monitorNotifies mode (stepOf s h eOut).transition = true ↔ announced := by
        rw [notifies_iff]
        rfl
      have flag := alerted_flag h eOut s
      have raising : monitorRaises s.settings.triggerMode (stepOf s h eOut) = decide raises := by
        rw [Bool.eq_iff_iff, raises_iff, decide_eq_true_eq, ← monitor, announces]
        rfl
      refine ⟨?_, fun quiet => ?_, fun loud room busy => ?_, fun loud full => ?_⟩
      · rw [← raising, ← flag, state]
        split
        · exact offerReport_offtrack _ _ _
        · rfl
      · rw [state, if_neg (mt announces.mp quiet), out]
      · have kind : (stepOf s h eOut).transition ≠ .none := by
          rcases loud with ⟨t, -⟩ | ⟨t, -⟩ <;> rw [← transition, t] <;> decide
        rw [state, if_pos (announces.mpr loud), offerReport_busy (by rw [out]; exact busy) (by rw [out]; exact room),
          offtrackNotice_eq kind, clock]
        simp only [withReport, out]
        rfl
      · rw [state, if_pos (announces.mpr loud), Laws.offerReport_full _ _ _ (by rw [out]; exact full)]
        refine ⟨out, by simp [Alert.weight, Alert.position], ?_⟩
        rw [Laws.readCounter_raise, Laws.readCounter_bump, if_pos (show 15 = Counter.reportDrop.index from rfl), counters]
        rfl
  · intro t d some
    refine ⟨fun clear beyond => ?_, fun tripped run within => ?_⟩
    · have runs := counting_countAll (w := w) errors beyond (.inl ⟨clear, rfl⟩) some
      rwa [Nat.zero_add] at runs
    · have runs := releasing_countAll (w := w) errors within tripped run some
      rwa [Nat.zero_add] at runs

end Sys2Proof.Monitors
end

section
/-! PROOFS. A departure from LOCKED or COASTING, in the manual's words: what learning and plan are told, and what stays (R73, R85,
R122). -/

namespace Sys2Proof.Departures

set_option Elab.async false

open Sys2Proof.Machine Sys2Proof.Safety Sys2Proof.Traffic Sys2Proof.ClockLaw Sys2Proof.Notices

/-- What raises no alert leaves the flags. -/
theorem flags_of_carried {F : Footprint} {s t : State} (h : Carried F s t) (none : F.alerts = []) :
    t.alerts.flags = s.alerts.flags := by
  induction h with
  | rest _ _ alerts => rw [alerts]
  | raised s raises => rw [none] at raises; cases raises
  | looped f s => rcases Carried.offerLoop_alerts f s with e | e <;> rw [e]; rfl
  | trans _ _ ih₁ ih₂ => rw [ih₂, ih₁]
  | _ => rfl

theorem running_iff {c : ClockState} : c.running = true ↔ c = .locked ∨ c = .coasting := by
  cases c <;> simp [ClockState.running]

theorem timerOf_eq (p : PlanStep) : waitTimerOf p.timeout = timerOf p := rfl

/-- The pass-restart counter counts a discarded accumulation. -/
theorem readCounter_discard (s : State) (k : Nat) : readCounter (discardAccumulation s) k =
    if k = 19 ∧ s.engine.pass = .accumulate then saturated (readCounter s 19) 1 else readCounter s k := by
  unfold discardAccumulation
  by_cases accumulate : s.engine.pass = .accumulate
  · rw [if_pos accumulate]
    simp only [accumulate, and_true]
    exact Laws.readCounter_bump .passRestarts k _
  · simp [accumulate]

theorem readCounter_departure (s : State) (k : Nat) : readCounter (departure s) k =
    if s.clock.state.running then readCounter (discardAccumulation s) k else readCounter s k := by
  unfold departure clockLossNotice
  split
  · have alerts : ∀ u : State, (returnToWaiting u).alerts = u.alerts := by simp
    simp [readCounter, setRefreshTimer]
  · rfl

/-- An ACTIVE step returned to WAITING, and any other plan, in the manual's words. -/
theorem returned_active {s : State} {n : Nat} (current : s.plan.current = some n) (active : s.plan.sub = some .active) :
    returned s.steps s.plan = { s.plan with sub := some .waiting, regs := {}, waitTimer := timerOf (planStep s n) } := by
  simp only [returned, current, active]
  rfl

theorem returned_other {steps : Table PlanStep} {p : Plan} (other : p.sub ≠ some .active) : returned steps p = p := by
  unfold returned
  split
  · next active => exact absurd active other
  · rfl

theorem discarded_accumulate {e : Engine} (accumulate : e.pass = .accumulate) :
    discarded e = { e with cells := [], revs := 0, pass := .ready } := if_pos accumulate

theorem discarded_other {e : Engine} (other : e.pass ≠ .accumulate) : discarded e = e := if_neg other

/-- The clock's loss notice, from what the state is after it. -/
theorem clockLossNoticed {s t : State} (engine : t.engine = discarded s.engine) (plan : t.plan = returned s.steps s.plan)
    (counter : readCounter t 19 = readCounter (discardAccumulation s) 19) : ClockLossNoticed s t := by
  rw [readCounter_discard] at counter
  refine ⟨fun accumulate => ⟨engine.trans (discarded_accumulate accumulate), ?_⟩,
    fun other => ⟨engine.trans (discarded_other other), ?_⟩, fun n current active => plan.trans (returned_active current active),
    fun other => plan.trans (returned_other other)⟩
  · rw [counter, if_pos ⟨rfl, accumulate⟩]
  · rw [counter, if_neg fun h => other h.2]

end Sys2Proof.Departures
end

section
/-! PROOFS. Cells written and read back, object by object, and the range of an accepted SET (R41, R42, R117, R145 to R149). -/

namespace Sys2Proof.SetCells

set_option Elab.async false

open Sys2Proof.Machine Sys2Proof.Safety Sys2Proof.Commands Sys2Proof.Actions Sys2Proof.Ranges Sys2Proof.Writers
  Sys2Proof.Requests Sys2Proof.Notices

/-! ### The fields of a record -/

theorem readSetting_storeSetting_other (t : Settings) {k j : Nat} (v : Nat) (other : j ≠ k) :
    readSetting (storeSetting t k v) j = readSetting t j := by
  unfold storeSetting
  split
  case h_15 => rfl
  all_goals
    unfold readSetting
    split <;> simp_all

theorem readSetting_storeSetting_same (t : Settings) {k : Nat} (v : Nat) (small : k < 14) :
    readSetting (storeSetting t k v) k = v := by
  interval_cases k <;> rfl

/-- A field of a head's record, the effective offset apart (R41). -/
def recField (r : HeadRec) (field : Nat) : Int :=
  match field with
  | 0 => flagCell r.enabled
  | 1 => r.mode.code
  | 2 => r.burstFloor
  | 3 => flagCell r.compEnable
  | 4 => flagCell r.learnEnable
  | 5 => flagCell r.defectLearn
  | 6 => flagCell (r.source == .track)
  | 7 => r.ownOffset
  | 8 => r.refHead
  | 9 => r.offsetDiff
  | 10 => flagCell r.offsetValid
  | _ => 0

theorem readHeadField_recField (s : State) (h : Nat) {field : Nat} (own : field ≠ 11) :
    readHeadField s h field = recField (headRec s h) field := by
  unfold readHeadField recField
  split
  case h_12 => exact absurd rfl own
  case h_13 => split <;> simp_all
  all_goals rfl

/-- Field 10, offset valid, is also set with fields 7 and 9 (R42). -/
theorem recField_storeHeadField_other (r : HeadRec) {k j : Nat} (v : Int) (other : j ≠ k)
    (valid : j = 10 → k ≠ 7 ∧ k ≠ 9) : recField (storeHeadField r k v) j = recField r j := by
  unfold storeHeadField
  split
  case h_12 => rfl
  all_goals
    unfold recField
    split <;> simp_all

theorem flagCell_eq {v : Int} (low : 0 ≤ v) (high : v ≤ 1) : flagCell (v == 1) = v := by
  have two : v = 0 ∨ v = 1 := by omega
  rcases two with rfl | rfl <;> rfl

theorem recField_storeHeadField_same (r : HeadRec) {k : Nat} (v : Int) (small : k < 11)
    (low : (headFieldRange k).1 ≤ v) (high : v ≤ (headFieldRange k).2) : recField (storeHeadField r k v) k = v := by
  have three : 0 ≤ v → v ≤ 2 → ((fwdModeOf v).code : Int) = v := fun low high => by
    have cases : v = 0 ∨ v = 1 ∨ v = 2 := by omega
    rcases cases with rfl | rfl | rfl <;> rfl
  have source : 0 ≤ v → v ≤ 1 → flagCell ((if v = 1 then OffsetSource.track else .own) == .track) = v := fun low high => by
    have two : v = 0 ∨ v = 1 := by omega
    rcases two with rfl | rfl <;> rfl
  have nat : 0 ≤ v → ((v.toNat : Nat) : Int) = v := Int.toNat_of_nonneg
  interval_cases k
  · exact flagCell_eq low high
  · exact three low high
  · exact nat low
  · exact flagCell_eq low high
  · exact flagCell_eq low high
  · exact flagCell_eq low high
  · exact source low high
  · rfl
  · exact nat low
  · rfl
  · exact flagCell_eq low high

theorem readStepField_storeStepField_other (p : PlanStep) {k j : Nat} (v : Int) (other : j ≠ k) :
    readStepField (storeStepField p k v) j = readStepField p j := by
  unfold storeStepField
  split
  case h_11 => rfl
  all_goals
    unfold readStepField
    split <;> simp_all

theorem readStepField_storeStepField_same (p : PlanStep) {k : Nat} (v : Int) (small : k < 10)
    (low : (stepFieldRange k).1 ≤ v) (high : v ≤ (stepFieldRange k).2) : readStepField (storeStepField p k v) k = v := by
  have phase : 0 ≤ v → v ≤ 4 → ((phaseOf v).code : Int) = v := fun low high => by
    have cases : v = 0 ∨ v = 1 ∨ v = 2 ∨ v = 3 ∨ v = 4 := by omega
    rcases cases with rfl | rfl | rfl | rfl | rfl <;> rfl
  have onFail : 0 ≤ v → v ≤ 1 → flagCell ((if v = 1 then OnFail.stop else .continue) == .stop) = v := fun low high => by
    have two : v = 0 ∨ v = 1 := by omega
    rcases two with rfl | rfl <;> rfl
  have nat : 0 ≤ v → ((v.toNat : Nat) : Int) = v := Int.toNat_of_nonneg
  interval_cases k
  · exact phase low high
  · exact nat low
  · exact nat low
  · exact nat (le_trans (by decide) low)
  · exact nat (le_trans (by decide) low)
  · exact nat low
  · exact nat low
  · exact flagCell_eq low high
  · exact onFail low high
  · exact nat low

/-! ### One cell -/

/-- The effective offset stands in no stored cell, and offset valid is also set with two others (R41, R42). -/
def Bystander (o : Obj) (k j : Nat) : Prop :=
  j ≠ k ∧ (o = .headrec → j % 16 ≠ 11 ∧ (j % 16 = 10 → j / 16 = k / 16 → k % 16 ≠ 7 ∧ k % 16 ≠ 9))

theorem split_index {j k : Nat} (n : Nat) (other : j ≠ k) (same : j / n = k / n) : j % n ≠ k % n := fun e =>
  other (by rw [← Nat.div_add_mod j n, ← Nat.div_add_mod k n, same, e])

theorem planStep_writeCell (k j : Nat) (v : Int) (s : State) : planStep (writeCell .planstep k v s) j =
    if j = k / 16 then storeStepField (planStep s (k / 16)) (k % 16) v else planStep s j :=
  Laws.get_set ({} : PlanStep) s.steps (k / 16) j _

theorem headRec_writeCell (k j : Nat) (v : Int) (s : State) : headRec (writeCell .headrec k v s) j =
    if j = k / 16 then storeHeadField (headRec s (k / 16)) (k % 16) v else headRec s j := Laws.headRec_setHeadRec _ _ _ _

/-- A written cell leaves the others of its object. -/
theorem readCell_writeCell_other {o : Obj} {k j : Nat} {v : Int} {s : State} (bystander : Bystander o k j)
    (writable : readOnlyCell o k = false) (inside : k < o.size) (mask : o = .alert → j < 2) :
    readCell (writeCell o k v s) o j = readCell s o j := by
  obtain ⟨other, record⟩ := bystander
  cases o with
  | setting =>
    show ((readSetting (writeSetting k v.toNat s).settings j : Nat) : Int) = readSetting s.settings j
    rw [writeSetting_settings, readSetting_storeSetting_other _ _ other]
  | headrec =>
    obtain ⟨own, valid⟩ := record rfl
    show readHeadField _ (j / 16) (j % 16) = readHeadField _ (j / 16) (j % 16)
    rw [readHeadField_recField _ _ own, readHeadField_recField _ _ own, headRec_writeCell]
    split
    · next same =>
      rw [same, recField_storeHeadField_other _ _ (split_index 16 other same) fun ten => valid ten same]
    · rfl
  | lintab => exact (Laws.get_set 0 s.linTab k j v).trans (if_neg other)
  | runout => exact (Laws.get_set 0 s.runout k j v).trans (if_neg other)
  | planstep =>
    show readStepField (planStep _ (j / 16)) (j % 16) = readStepField (planStep _ (j / 16)) (j % 16)
    rw [planStep_writeCell]
    split
    · next same => rw [same, readStepField_storeStepField_other _ _ (split_index 16 other same)]
    · rfl
  | counter => exact congrArg Nat.cast ((Laws.readCounter_writeCounter j k 0 s).trans (if_neg other))
  | alert =>
    have one : k ≠ 0 := by simpa [readOnlyCell] using writable
    have two := mask rfl
    simp only [Obj.size] at inside
    rw [show j = 0 by omega]
    rfl
  | defect | state => rfl

theorem toNat_ofInt_mask (v : Int) : ((BitVec.ofInt 12 v).toNat : Int) = v % 4096 := by
  rw [BitVec.toNat_ofInt]
  exact Int.toNat_of_nonneg (Int.emod_nonneg v (by decide))

/-- A written cell reads back (R147). -/
theorem readCell_writeCell_same {o : Obj} {k : Nat} (v : Int) (s : State) (writable : readOnlyCell o k = false) (inside : k < o.size) :
    readCell (writeCell o k (storedValue o k v) s) o k = setResult o k v := by
  cases o with
  | setting =>
    have small : k < 14 := by simpa [readOnlyCell] using writable
    have ranges : ∀ k < 14, 0 ≤ (settingRange k).1 ∧ (settingRange k).1 ≤ (settingRange k).2 := by decide
    obtain ⟨positive, order⟩ := ranges k small
    have low := (clamp_mem order v).1
    show ((readSetting (writeSetting k (clamp (settingRange k).1 (settingRange k).2 v).toNat s).settings k : Nat) : Int) =
      clamp (settingRange k).1 (settingRange k).2 v
    rw [writeSetting_settings, readSetting_storeSetting_same _ _ small, Int.toNat_of_nonneg (le_trans positive low)]
  | headrec =>
    have small : k % 16 < 11 := by simpa [readOnlyCell] using writable
    have ranges : ∀ k < 11, (headFieldRange k).1 ≤ (headFieldRange k).2 := by decide
    obtain ⟨low, high⟩ := clamp_mem (ranges _ small) v
    show readHeadField _ (k / 16) (k % 16) = clamp (headFieldRange (k % 16)).1 (headFieldRange (k % 16)).2 v
    rw [readHeadField_recField _ _ (by omega), headRec_writeCell, if_pos rfl]
    exact recField_storeHeadField_same _ _ small low high
  | lintab => exact Laws.get_set_same 0 s.linTab k _
  | runout => exact Laws.get_set_same 0 s.runout k _
  | planstep =>
    have small : k % 16 < 10 := by simpa [readOnlyCell] using writable
    have ranges : ∀ k < 10, (stepFieldRange k).1 ≤ (stepFieldRange k).2 := by decide
    obtain ⟨low, high⟩ := clamp_mem (ranges _ small) v
    show readStepField (planStep _ (k / 16)) (k % 16) = clamp (stepFieldRange (k % 16)).1 (stepFieldRange (k % 16)).2 v
    rw [planStep_writeCell, if_pos rfl]
    exact readStepField_storeStepField_same _ _ small low high
  | counter => exact congrArg Nat.cast ((Laws.readCounter_writeCounter k k 0 s).trans (if_pos rfl))
  | alert =>
    have one : k ≠ 0 := by simpa [readOnlyCell] using writable
    show (if k = 0 then _ else ((BitVec.ofInt 12 v).toNat : Int)) = v % 4096
    rw [if_neg one, toNat_ofInt_mask]
  | defect | state => cases writable

/-! ### A range -/

/-- The cells of a range that a SET may write. -/
def Writable (o : Obj) (first n : Nat) : Prop := ∀ k, first ≤ k → k < first + n → readOnlyCell o k = false ∧ k < o.size

theorem writeCells_cons (o : Obj) (k : Nat) (v : Int) (vs : List Int) (s : State) :
    writeCells o k (v :: vs) s = writeCells o (k + 1) vs (writeCell o k (storedValue o k v) s) := rfl

theorem readCell_writeCells_out {o : Obj} {j : Nat} (vs : List Int) {first : Nat} {s : State}
    (writable : Writable o first vs.length) (mask : o = .alert → j < 2)
    (bystander : ∀ k, first ≤ k → k < first + vs.length → Bystander o k j) :
    readCell (writeCells o first vs s) o j = readCell s o j := by
  induction vs generalizing first s with
  | nil => rfl
  | cons v vs ih =>
    rw [List.length_cons] at writable bystander
    obtain ⟨open_, inside⟩ := writable first le_rfl (by omega)
    rw [writeCells_cons, ih (fun k lo hi => writable k (by omega) (by omega)) (fun k lo hi => bystander k (by omega) (by omega))]
    exact readCell_writeCell_other (bystander first le_rfl (by omega)) open_ inside mask

/-- In a range that covers it, offset valid is the last cell, since the effective offset that follows cannot be written. -/
theorem bystander_behind {o : Obj} {first n j k : Nat} (writable : Writable o first n) (hj : first ≤ j) (later : j < k)
    (hk : k < first + n) : Bystander o k j := by
  refine ⟨by omega, fun record => ?_⟩
  subst record
  have fixed : ∀ i, first ≤ i → i < first + n → i % 16 < 11 := fun i lo hi => by
    simpa [readOnlyCell] using (writable i lo hi).1
  have here := fixed j hj (by omega)
  refine ⟨by omega, fun ten same => ?_⟩
  have next := fixed (j + 1) (by omega) (by omega)
  omega

theorem readCell_writeCells_in {o : Obj} (vs : List Int) {first i : Nat} {s : State} (writable : Writable o first vs.length)
    (hi : i < vs.length) : readCell (writeCells o first vs s) o (first + i) = setResult o (first + i) vs[i] := by
  induction vs generalizing first i s with
  | nil => cases hi
  | cons v vs ih =>
    rw [List.length_cons] at writable hi
    have rest : Writable o (first + 1) vs.length := fun k lo hi => writable k (by omega) (by omega)
    rw [writeCells_cons]
    cases i with
    | zero =>
      obtain ⟨open_, inside⟩ := writable first le_rfl (by omega)
      show readCell _ o first = setResult o first v
      rw [readCell_writeCells_out vs rest (fun mask => by subst mask; exact inside)
        fun k lo hi => bystander_behind writable le_rfl (by omega) (by omega)]
      exact readCell_writeCell_same v s open_ inside
    | succ i =>
      rw [show first + (i + 1) = first + 1 + i by omega]
      exact ih rest (by omega)

/-! ### Offset valid (R42) -/

/-- A range covers a cell. -/
def covers (first n k : Nat) : Bool := decide (first ≤ k ∧ k < first + n)

theorem offsetValid_writeCell (k : Nat) (v : Int) (s : State) (h : Nat) (other : k ≠ h * 16 + 10) :
    (headRec (writeCell .headrec k v s) h).offsetValid =
      ((headRec s h).offsetValid || decide (k = h * 16 + 7) || decide (k = h * 16 + 9)) := by
  rw [headRec_writeCell]
  by_cases same : h = k / 16
  · rw [if_pos same, ← same]
    have at_ : ∀ n, n < 16 → (k = h * 16 + n ↔ k % 16 = n) := fun n hn => by omega
    rw [Ne, at_ 10 (by decide)] at other
    simp only [at_ 7 (by decide), at_ 9 (by decide)]
    unfold storeHeadField
    split <;> simp_all
  · have ne : ∀ n, n < 16 → ¬k = h * 16 + n := fun n hn => by omega
    simp [same, ne]

theorem offsetValid_writeCells (vs : List Int) {first : Nat} {s : State} {h : Nat}
    (other : covers first vs.length (h * 16 + 10) = false) : (headRec (writeCells .headrec first vs s) h).offsetValid =
      ((headRec s h).offsetValid || covers first vs.length (h * 16 + 7) || covers first vs.length (h * 16 + 9)) := by
  induction vs generalizing first s with
  | nil =>
    have empty : ∀ k, covers first 0 k = false := fun k => decide_eq_false (by omega)
    simp [writeCells, empty]
  | cons v vs ih =>
    have step : ∀ k, covers first (vs.length + 1) k = (decide (first = k) || covers (first + 1) vs.length k) := fun k => by
      simp only [covers, ← Bool.decide_or]
      exact decide_eq_decide.mpr (by omega)
    rw [List.length_cons, step, Bool.or_eq_false_iff, decide_eq_false_iff_not] at other
    rw [writeCells_cons, ih other.2, offsetValid_writeCell _ _ _ _ other.1, List.length_cons, step, step]
    simp only [Bool.or_assoc, Bool.or_left_comm]

/-! ### The request -/

section
variable {c : Instr} {object : Byte} {q : Request} {s : State} {o : Obj}

/-- A taken request holds the values its count names (R5). -/
theorem values_length {code : Byte} (taken : linkCheck .bench (q.bytes code object) = none) : q.values.length = q.count.toNat :=
  ((Envelopes.typedFramesAreTakenByLengthAndCrc.2.2.2 code object q).mp taken).2.1.symm

/-- The values of a request as a SET takes them. -/
theorem takenValues_length {code : Byte} (taken : linkCheck .bench (q.bytes code object) = none) :
    ((readRequest code object q).values.take q.count.toNat).length = q.count.toNat := by
  simp [readRequest, values_length taken]

theorem takenValues_get {code : Byte} (taken : linkCheck .bench (q.bytes code object) = none) {i : Nat}
    (hi : i < ((readRequest code object q).values.take q.count.toNat).length) :
    ((readRequest code object q).values.take q.count.toNat)[i] = valueOf q i := by
  have short : i < q.values.length := by rw [values_length taken, ← takenValues_length taken]; exact hi
  simp [readRequest, valueOf, List.getD_eq_getElem?_getD, List.getElem?_eq_getElem short]

/-- A SET whose range lies within the object, can be written and is held by nothing is executed (R147). -/
theorem setCells_accepted (known : objOf object.toNat = some o) (some : 1 ≤ q.count.toNat)
    (inside : q.index.toNat + q.count.toNat ≤ o.size)
    (free : ∀ i < q.count.toNat, readOnlyCell o (q.index.toNat + i) = false ∧ heldCell s o (q.index.toNat + i) = false) :
    actionOf 2 (readRequest 2 object q) s =
      (writeCells o q.index.toNat ((readRequest 2 object q).values.take q.count.toNat) s,
        { status := if anyClamped o q.index.toNat ((readRequest 2 object q).values.take q.count.toNat) then .clamped else .done }) := by
  have loose : ∀ p : Nat → Bool, (∀ i < q.count.toNat, p (q.index.toNat + i) = false) →
      (cellsOf (readRequest 2 object q)).any p = false := fun p none => by
    rw [List.any_eq_false]
    intro k hk
    obtain ⟨i, hi, rfl⟩ := List.mem_map.mp hk
    simp [none i (List.mem_range.mp hi)]
  have accepted : setRefusal o (readRequest 2 object q) s = none := by
    rw [setRefusal, if_neg (by simp only [readRequest_count, readRequest_index]; omega),
      loose _ fun i hi => (free i hi).1, loose _ fun i hi => (free i hi).2]
    rfl
  show setCells _ s = _
  simp only [setCells, readRequest_object, known, accepted, readRequest_index, readRequest_count]
  rfl

theorem anyClamped_eq (o : Obj) (vs : List Int) (first : Nat) (value : Nat → Int) (values : ∀ i (h : i < vs.length), vs[i] = value i) :
    anyClamped o first vs = (List.range vs.length).any fun i => storedValue o (first + i) (value i) != value i := by
  induction vs generalizing first value with
  | nil => rfl
  | cons v vs ih =>
    have head : v = value 0 := values 0 (by simp)
    rw [anyClamped, ih (first + 1) (fun i => value (i + 1)) fun i h => values (i + 1) (by simpa using h), List.length_cons,
      List.range_succ_eq_map, List.any_cons, List.any_map, head]
    simp only [Nat.add_zero, Function.comp_def, Nat.add_assoc, Nat.add_comm 1]

/-- Cells outside the STATE object do not read what an answer changes. -/
theorem cellValue_answer {m : Mgmt} {r : Reply} {u : State} (stored : o ≠ .state) (k : Nat) :
    cellValue (answer m r u) o k = cellValue u o k := by
  cases o with
  | state => exact absurd rfl stored
  | _ => rfl

/-- Writing a setting discards an accumulation at most, and then counts it (R60, R85). -/
theorem writeCell_counter {k : Nat} {v : Int} (j : Nat) (other : o = .counter → j ≠ k)
    (restart : o = .setting → s.engine.pass = .accumulate → j ≠ 19) :
    readCounter (writeCell o k v s) j = readCounter s j := by
  cases o with
  | setting =>
    show readCounter (writeSetting k v.toNat s) j = _
    unfold writeSetting
    dsimp only
    split
    · have departed : ∀ u : State, (u.engine.pass = .accumulate → j ≠ 19) → readCounter (unlockClock u) j = readCounter u j := by
        intro u other
        rw [ClockLaw.unlockClock_eq]
        show readCounter (departure u) j = _
        rw [Departures.readCounter_departure]
        split
        · rw [Departures.readCounter_discard, if_neg fun e => other e.2 e.1]
        · rfl
      exact departed _ (restart rfl)
    · rfl
  | counter => exact (Laws.readCounter_writeCounter j k 0 s).trans (if_neg (other rfl))
  | _ => rfl

/-- What no SET touches, and the mask that only its own does (R147). -/
structure Unwritten (o : Obj) (s t : State) : Prop where
  link : t.link = s.link
  sending : t.out.sending = s.out.sending
  answer : t.out.answer = s.out.answer
  flags : t.alerts.flags = s.alerts.flags
  mask : o ≠ .alert → t.alerts.mask = s.alerts.mask

theorem unwritten_writeCell (o : Obj) (k : Nat) (v : Int) (s : State) : Unwritten o s (writeCell o k v s) := by
  cases o with
  | setting =>
    simp only [writeCell, writeSetting]
    split
    · have carried := Traffic.unlockClock_carried { s with settings := storeSetting s.settings k v.toNat }
      have flags : (unlockClock { s with settings := storeSetting s.settings k v.toNat }).alerts.flags = s.alerts.flags :=
        Departures.flags_of_carried (F := Traffic.departs) (s := { s with settings := storeSetting s.settings k v.toNat }) carried rfl
      have out : ∀ u : State, (unlockClock u).out = (departure u).out := fun u => by simp [ClockLaw.unlockClock_eq]
      refine ⟨carried.link, ?_, ?_, flags, fun _ => carried.mask⟩
      · rw [out, ClockLaw.departure_out]
        split <;> rfl
      · rw [out, ClockLaw.departure_out]
        split <;> rfl
    · exact ⟨rfl, rfl, rfl, rfl, fun _ => rfl⟩
  | alert => exact ⟨rfl, rfl, rfl, rfl, fun other => absurd rfl other⟩
  | _ => exact ⟨rfl, rfl, rfl, rfl, fun _ => rfl⟩

theorem unwritten_writeCells (o : Obj) (vs : List Int) (k : Nat) (s : State) : Unwritten o s (writeCells o k vs s) := by
  induction vs generalizing k s with
  | nil => exact ⟨rfl, rfl, rfl, rfl, fun _ => rfl⟩
  | cons v vs ih =>
    obtain ⟨link, sending, answer, flags, mask⟩ := unwritten_writeCell o k (storedValue o k v) s
    obtain ⟨link', sending', answer', flags', mask'⟩ := ih (k + 1) (writeCell o k (storedValue o k v) s)
    exact ⟨link'.trans link, sending'.trans sending, answer'.trans answer, flags'.trans flags,
      fun other => (mask' other).trans (mask other)⟩

theorem readCounter_writeCells (vs : List Int) {first : Nat} (j : Nat) (other : o = .counter → j < first ∨ first + vs.length ≤ j)
    (restart : o = .setting → s.engine.pass = .accumulate → j ≠ 19) :
    readCounter (writeCells o first vs s) j = readCounter s j := by
  induction vs generalizing first s with
  | nil => rfl
  | cons v vs ih =>
    rw [List.length_cons] at other
    have accumulates : (writeCell o first (storedValue o first v) s).engine.pass = .accumulate → s.engine.pass = .accumulate := by
      intro accumulate
      rcases Samples.writeCell_noticed o first (storedValue o first v) s with e | e
      · rwa [e] at accumulate
      · rw [e] at accumulate
        exact absurd accumulate (discarded_pass _)
    rw [writeCells_cons, ih (fun e => by have := other e; omega) fun e pass => restart e (accumulates pass)]
    exact writeCell_counter j (fun e => by have := other e; omega) restart

/-- The cells of the tables that a SET of another object does not reach. -/
theorem cellValue_writeCells_object (vs : List Int) {first : Nat} {o' : Obj} (k : Nat) (other : o' ≠ o)
    (stored : o' ∈ [Obj.setting, .headrec, .lintab, .runout, .defect, .planstep, .alert]) :
    cellValue (writeCells o first vs s) o' k = cellValue s o' k := by
  have spared := spared_writeCells o vs first s
  have unwritten := unwritten_writeCells o vs first s
  cases o' with
  | setting => simp only [cellValue, spared.settings other.symm]
  | headrec => simp only [cellValue, headRec, effectiveOffset, tracking, spared.headRecs other.symm]; rfl
  | lintab => simp only [cellValue, linPoint, spared.linTab other.symm]
  | runout => simp only [cellValue, runoutEntry, spared.runout other.symm]
  | defect => simp only [cellValue, spared.defects]
  | planstep => simp only [cellValue, planStep, spared.steps other.symm]; rfl
  | alert => simp only [cellValue, unwritten.flags, unwritten.mask other.symm]
  | state | counter => simp at stored

end

/-- Settles O47: each cell of the range by its own write, the others by what no write reaches. -/
theorem setReadsBack : Obligations.SetReadsBack := by
  intro c object q s o first n value writes admitted known some inside free
  have act := setCells_accepted known some inside free
  have length := takenValues_length (object := object) admitted.taken
  have values : ∀ i (h : i < ((readRequest 2 object q).values.take q.count.toNat).length),
      ((readRequest 2 object q).values.take q.count.toNat)[i] = value i := fun i h => takenValues_get admitted.taken h
  generalize (readRequest 2 object q).values.take q.count.toNat = vs at act length values
  have writable : Writable o first vs.length := fun k lo hi => by
    have cell := (free (k - first) (by omega)).1
    rw [show q.index.toNat + (k - first) = k by omega] at cell
    exact ⟨cell, by omega⟩
  have stored : o ≠ .state := by
    rintro rfl
    have cell := (free 0 (by omega)).1
    cases cell
  have spared := spared_writeCells o vs first s
  have unwritten := unwritten_writeCells o vs first s
  refine ⟨_, exec_action admitted _ _ act, fun i hi => ?_, fun o' k tables hk outside => ?_, fun k outside restart => ?_,
    fun k ten eleven outside => ?_, fun h outside => ?_, spared.contexts, spared.activeHead, unwritten.flags,
    writeCells_pending o vs first s, fun busy => ?_⟩
  · rw [cellValue_answer stored, ← readCell_eq _ _ _ fun mask => by subst mask; simp only [Obj.size] at inside; omega]
    rw [readCell_writeCells_in vs writable (by omega), values]
  · rw [cellValue_answer (by rintro rfl; simp at tables)]
    by_cases same : o' = o
    · subst same
      have small : o' = .alert → k < 2 := fun mask => by subst mask; exact hk
      rw [← readCell_eq _ _ _ small, ← readCell_eq _ _ _ small]
      refine readCell_writeCells_out vs writable small fun j lo hi => ⟨fun e => outside ⟨rfl, by omega, by omega⟩, ?_⟩
      rintro rfl
      simp at tables
    · exact cellValue_writeCells_object vs k same (by simp at tables ⊢; tauto)
  · refine congrArg Nat.cast (readCounter_writeCells vs k (fun counter => ?_) restart)
    by_contra covered
    exact outside ⟨counter.symm, by omega, by omega⟩
  · rw [cellValue_answer (by decide)]
    by_cases same : o = .headrec
    · subst same
      rw [← readCell_eq _ _ _ (by simp), ← readCell_eq _ _ _ (by simp)]
      exact readCell_writeCells_out vs writable (by simp) fun j lo hi =>
        ⟨fun e => outside ⟨rfl, by omega, by omega⟩, fun _ => ⟨eleven, fun e => absurd e ten⟩⟩
    · exact cellValue_writeCells_object vs k (Ne.symm same) (by simp)
  · show (headRec (writeCells o first vs s) h).offsetValid = _
    by_cases same : o = .headrec
    · subst same
      have decides : ∀ k, covers first vs.length k = decide (writes .headrec k) := fun k =>
        decide_eq_decide.mpr ⟨fun e => ⟨rfl, e.1, by omega⟩, fun e => ⟨e.2.1, by omega⟩⟩
      rw [offsetValid_writeCells vs (by rw [decides]; exact decide_eq_false outside), decides, decides]
    · have none : ∀ k, decide (writes .headrec k) = false := fun k => decide_eq_false fun e => same e.1.symm
      rw [none, none, headRec, spared.headRecs same]
      simp [headRec]
  · have sending : (writeCells o first vs s).out.sending.isSome = true := by rw [unwritten.sending]; exact busy
    rw [answer_eq_answered 2 object q _ _ sending]
    have clamped : anyClamped o q.index.toNat vs = (List.range n).any fun i => storedValue o (first + i) (value i) != value i := by
      rw [anyClamped_eq o vs first value values, length]
    have status : (if anyClamped o q.index.toNat vs then Status.clamped else .done).code =
        if (List.range n).any fun i => storedValue o (first + i) (value i) != value i then 1 else 0 := by
      rw [clamped]
      split <;> rfl
    simp only [answered, unwritten.answer, unwritten.link, status]
    rfl

end Sys2Proof.SetCells
end

section
/-! PROOFS. The ways a running clock stops: the idle timer's end, missed wedges, a SET of W (R60, R66, R70, R71, R73, R140). -/

namespace Sys2Proof.Losses

set_option Elab.async false

open Sys2Proof.Machine Sys2Proof.Safety Sys2Proof.Traffic Sys2Proof.ClockLaw Sys2Proof.Notices Sys2Proof.Departures
  Sys2Proof.Outcomes

variable {s t : State}

/-! ### Departures -/

theorem departure_flags (s : State) : (departure s).alerts.flags = s.alerts.flags :=
  flags_of_carried (F := departs) (departure_carried s) rfl

theorem departure_report (s : State) : (departure s).out.report = s.out.report := by
  rw [departure_out]
  split <;> rfl

theorem departure_timer (running : s.clock.state.running = true) : (departure s).out.refreshTimer = some 10 := by
  rw [departure_out, if_pos running]

theorem departure_stopped (stopped : s.clock.state.running = false) : departure s = s := by
  simp [departure, stopped]

/-- A departure from a running clock is its loss notice. -/
theorem noticed_of_departure (running : s.clock.state.running = true) (engine : t.engine = (departure s).engine)
    (plan : t.plan = (departure s).plan) (counter : readCounter t 19 = readCounter (departure s) 19) : ClockLossNoticed s t := by
  refine clockLossNoticed ?_ ?_ ?_
  · rw [engine, departure_engine, if_pos running]
  · rw [plan, departure_plan, if_pos running]
  · rw [counter, readCounter_departure, if_pos running]

/-! ### A lost clock -/

/-- What the loss announces while a frame is being sent and the REPORT queue has room. -/
theorem loseClock_busy (cause : Nat) (busy : s.out.sending.isSome = true) (room : s.out.report.length < 32) :
    loseClock cause s = withReport (reportBytes 1 s.clock.stamp (clockNotice 2 cause (lostClock s.clock)))
      (raise .clockLost (setClock (lostClock s.clock) (departure s))) := by
  have sending : (departure s).out.sending = s.out.sending := by
    rw [departure_out]
    split <;> rfl
  rw [loseClock_eq, offerReport_busy]
  · rfl
  · simpa using sending ▸ busy
  · simpa [departure_report] using room

theorem loseClock_flags (cause : Nat) (busy : s.out.sending.isSome = true) (room : s.out.report.length < 32) :
    (loseClock cause s).alerts.flags = raised s.alerts.flags [0] := by
  rw [loseClock_busy cause busy room, raise_eq]
  show raised (departure s).alerts.flags [0] = _
  rw [departure_flags]

theorem loseClock_report (cause : Nat) (busy : s.out.sending.isSome = true) (room : s.out.report.length < 32) :
    (loseClock cause s).out.report = s.out.report ++
      [reportBytes 1 s.clock.stamp (clockNotice 2 cause (lostClock s.clock))] := by
  rw [loseClock_busy cause busy room]
  show (departure s).out.report ++ _ = _
  rw [departure_report]

/-- The announcement of the loss, which starts no timer. -/
theorem loseClock_announced (cause : Nat) (s : State) :
    Carried { counters := [.reportDrop], alerts := [.clockLost, .reportOverflow], report := true }
      (setClock (lostClock s.clock) (departure s)) (loseClock cause s) := by
  rw [loseClock_eq]
  exact (Carried.raised _ (by decide)).andThen (offerReport_carried _ _ _)

theorem loseClock_timer (cause : Nat) (s : State) : (loseClock cause s).out.refreshTimer = (departure s).out.refreshTimer := by
  have carried := loseClock_announced cause s
  exact carried.timer_eq rfl

theorem loseClock_counter (cause : Nat) (s : State) : readCounter (loseClock cause s) 19 = readCounter (departure s) 19 := by
  have carried := loseClock_announced cause s
  exact carried.counter_eq (c := .passRestarts) (by decide)

theorem loseClock_noticed (cause : Nat) (running : s.clock.state.running = true) : ClockLossNoticed s (loseClock cause s) :=
  noticed_of_departure running (loseClock_engine cause s) (loseClock_plan cause s) (loseClock_counter cause s)

/-- Settles O29: the loss with cause 2, a departure from a running clock alone. -/
theorem idleTimeoutLosesTheClock : Obligations.IdleTimeoutLosesTheClock := by
  refine ⟨fun s stopped => ?_, fun s started busy room => ?_⟩
  · exact congrArg Host.Outcome.next (show idleExpiry s = s by simp [idleExpiry, stopped])
  have loses : idleExpiry s = loseClock 2 s := if_pos started
  refine ⟨loseClock 2 s, by rw [← loses]; rfl, ?_⟩
  have carried := loseClock_carried 2 s
  simp only [loseClock_clock, lostClock, loseClock_flags 2 busy room, loseClock_report 2 busy room, carried.link, carried.mask,
    loseClock_engine, loseClock_plan, loseClock_timer, true_and]
  refine ⟨rfl, fun running => ⟨departure_timer (running_iff.mpr running), loseClock_noticed 2 (running_iff.mpr running)⟩,
    fun acquiring => ?_, by simp⟩
  rw [departure_stopped (by rw [acquiring]; rfl)]
  exact ⟨rfl, rfl, rfl⟩

/-! ### A SET of W (R60) -/

theorem answer_timer (m : Mgmt) (r : Reply) (s : State) : (answer m r s).out.refreshTimer = s.out.refreshTimer := by
  simp [answer, offerAnswer, (Carried.admitted_budget _).2]

theorem writeSetting_held {k v : Nat} (held : ¬(k = 1 ∧ v ≠ s.settings.wedges)) :
    writeSetting k v s = { s with settings := storeSetting s.settings k v } := if_neg held

theorem writeSetting_wedges {v : Nat} (other : v ≠ s.settings.wedges) :
    writeSetting 1 v s = unlockClock { s with settings := storeSetting s.settings 1 v } := if_pos ⟨rfl, other⟩

/-- W written alone while no plan runs and nothing is bound: the clamped value is stored. -/
theorem setCells_wedges {q : Request} (taken : linkCheck .bench (q.bytes 2 1) = none) (index : q.index = 1)
    (count : q.count = 1) (idle : s.plan.state ≠ .running) (unbound : s.engine.binding = none) :
    ∃ r, actionOf 2 (readRequest 2 1 q) s = (writeSetting 1 (max 64 (min 512 (q.values.getD 0 0).toInt)).toNat s, r) := by
  have one : q.count.toNat = 1 := by simp [count]
  have first : q.index.toNat = 1 := by simp [index]
  have act := SetCells.setCells_accepted (object := 1) (q := q) (s := s) (o := .setting) rfl (by omega)
    (by simp [one, first, Obj.size]) fun i hi => by
      obtain rfl : i = 0 := by omega
      simp [first, readOnlyCell, heldCell, idle, unbound]
  have length := SetCells.takenValues_length taken
  have values := fun h => SetCells.takenValues_get taken (i := 0) h
  generalize (readRequest 2 1 q).values.take q.count.toNat = vs at act length values
  obtain ⟨v, rfl⟩ : ∃ v, vs = [v] := List.length_eq_one_iff.mp (length.trans one)
  have value : v = (q.values.getD 0 0).toInt := values (by simp)
  rw [first, value] at act
  rw [← Ranges.clamp_eq _ _ _ (by decide)]
  exact ⟨_, act⟩

/-- What the write of a new W leaves, whatever follows it that keeps clock, learning, plan, counters and refresh timer. -/
theorem unlocked_noticed {v : Nat} (other : v ≠ s.settings.wedges) (running : s.clock.state.running = true)
    (m : Mgmt) (r : Reply) : (answer m r (writeSetting 1 v s)).out.refreshTimer = some 10 ∧
      ClockLossNoticed s (answer m r (writeSetting 1 v s)) := by
  have unlocks : ∀ u : State, u.clock.state.running = true → (answer m r (unlockClock u)).out.refreshTimer = some 10 ∧
      ClockLossNoticed u (answer m r (unlockClock u)) := fun u running => by
    refine ⟨?_, noticed_of_departure running (unlockClock_engine u) (unlockClock_plan u) ?_⟩
    · rw [answer_timer, unlockClock_eq]
      exact departure_timer running
    · rw [unlockClock_eq]
      rfl
  obtain ⟨timer, noticed⟩ := unlocks { s with settings := storeSetting s.settings 1 v } running
  rw [writeSetting_wedges other]
  exact ⟨timer, noticed.accumulating, noticed.otherPass, noticed.active, noticed.notActive⟩

theorem writeSetting_clock {v : Nat} (other : v ≠ s.settings.wedges) : (writeSetting 1 v s).clock = unlockedClock s.clock := by
  rw [writeSetting_wedges other, unlockClock_clock]

theorem writeSetting_report (k v : Nat) (s : State) : (writeSetting k v s).out.report = s.out.report := by
  unfold writeSetting
  dsimp only
  split
  · rw [unlockClock_eq]
    exact departure_report _
  · rfl

/-- Settles O48: the write of a new value is a departure of the clock's. -/
theorem settingWedgesUnlocksTheClock : Obligations.SettingWedgesUnlocksTheClock := by
  intro q s w admitted index count idle unbound
  obtain ⟨r, act⟩ := setCells_wedges admitted.taken index count idle unbound
  have unwritten := SetCells.unwritten_writeCell .setting 1 w s
  have spared := Writers.spared_writeCell .setting 1 w s
  have natural : (w.toNat : Int) = w := Int.toNat_of_nonneg (by omega)
  refine ⟨_, Requests.exec_action admitted _ _ act, Ranges.writeSetting_settings 1 w.toNat s, fun held => ?_, fun other => ?_,
    unwritten.flags, fun busy => ?_, spared.contexts, spared.headRecs (by decide), spared.runout (by decide), spared.defects,
    spared.steps (by decide)⟩
  · have same : w.toNat = s.settings.wedges := by omega
    rw [answer_timer, writeSetting_held fun h => h.2 same]
    exact ⟨rfl, rfl⟩
  · have new : w.toNat ≠ s.settings.wedges := by omega
    have clock := writeSetting_clock new
    have noticed := unlocked_noticed new
    rw [show (answer (readRequest 2 1 q) r (writeSetting 1 w.toNat s)).clock = unlockedClock s.clock from clock]
    exact ⟨rfl, rfl, rfl, rfl, rfl, rfl, rfl, rfl, rfl, rfl, fun running => noticed (running_iff.mpr running) _ _⟩
  · have sending : (writeSetting 1 w.toNat s).out.sending.isSome = true := by
      rw [show (writeSetting 1 w.toNat s).out.sending = _ from unwritten.sending]
      exact busy
    rw [Commands.answer_eq_answered _ _ _ _ _ sending]
    exact writeSetting_report 1 w.toNat s

end Sys2Proof.Losses
end

section
/-! PROOFS. Missed wedges: the synthesized POSITION, the coasting and the lost clock, and the windows that close before a frame's
arrival (R36, R64 to R66, R70). -/

namespace Sys2Proof.Misses

set_option Elab.async false

open Sys2Proof.Machine Sys2Proof.Safety Sys2Proof.Traffic Sys2Proof.ClockLaw Sys2Proof.Notices Sys2Proof.Departures
  Sys2Proof.Losses

variable {s t : State}

/-! ### The LOOP class behind a frame that is being sent (R135) -/

theorem offerLoop_busy (f : Frame) (busy : s.out.sending.isSome = true) :
    (offerLoop f s).out.loop = (if s.out.loop.length < 8 then s.out.loop else s.out.loop.drop 1) ++ [f] := by
  obtain ⟨g, sending⟩ := Option.isSome_iff_exists.mp busy
  rw [Scheduling.offerLoop_out, Laws.admitted_sending _ g (by simpa using sending), List.drop_one]

theorem readCounter_offerLoop_drop (f : Frame) (s : State) : readCounter (offerLoop f s) 13 =
    if s.out.loop.length < 8 then readCounter s 13 else saturated (readCounter s 13) 1 := by
  rcases Nat.lt_or_ge s.out.loop.length 8 with room | full
  · rw [Laws.offerLoop_room f s room, if_pos room]
    rfl
  · rw [Laws.offerLoop_full f s full, if_neg (by omega)]
    exact Laws.readCounter_bump .loopDrop 13 _

/-! ### The synthesized POSITION (R36, R37) -/

/-- The active head whose mode is not RAW, which a missed wedge gives a POSITION for. -/
def Synthesized (s : State) (h : Nat) : Prop := s.activeHead = some h ∧ (headRec s h).mode ≠ .raw

theorem synthesize_none (w : Nat) (none : ∀ h, ¬Synthesized s h) : synthesize w s = s := by
  unfold synthesize
  split
  · next h active => exact if_pos (by_contra fun mode => none h ⟨active, mode⟩)
  · rfl

theorem synthesize_some {w h : Nat} (synthesized : Synthesized s h) : synthesize w s =
    bump .heldFrames (offerPosition (synthesizedPosition h w (headContext s h)) s) := by
  unfold synthesize
  rw [synthesized.1]
  exact if_neg synthesized.2

/-! ### A missed wedge that is not the last (R66) -/

theorem missedOnce_carried (e : Expectation) (s : State) :
    Carried { counters := [.missedWedges, .heldFrames, .loopDrop], loop := true } s (missedOnce e s) :=
  have counted : Carried { counters := [.missedWedges, .heldFrames, .loopDrop], loop := true } s (bump .missedWedges s) :=
    counted_bump s (by decide)
  (counted.andRest (u := setClock (missedClock s.settings e s.clock) (bump .missedWedges s))).andThen (synthesize_carried e.wedge _)

/-- The wedge counted, before the POSITION. -/
theorem missedOnce_none (e : Expectation) (none : ∀ h, ¬Synthesized s h) :
    missedOnce e s = setClock (missedClock s.settings e s.clock) (bump .missedWedges s) :=
  synthesize_none e.wedge none

theorem missedOnce_some {e : Expectation} {h : Nat} (synthesized : Synthesized s h) : missedOnce e s =
    bump .heldFrames (offerPosition (synthesizedPosition h e.wedge (headContext s h))
      (setClock (missedClock s.settings e s.clock) (bump .missedWedges s))) :=
  synthesize_some (s := setClock (missedClock s.settings e s.clock) (bump .missedWedges s)) synthesized

theorem readCounter_missedOnce (e : Expectation) (s : State) : readCounter (missedOnce e s) 10 = saturated (readCounter s 10) 1 := by
  have synthesized := synthesize_carried e.wedge (setClock (missedClock s.settings e s.clock) (bump .missedWedges s))
  exact (synthesized.counter_eq (c := .missedWedges) (by decide)).trans (Laws.readCounter_bump .missedWedges 10 s)

/-! ### The part after the command -/

/-- What a loss adds to a missed wedge touches neither LOOP class nor any counter but those of learning and reports. -/
theorem declareMissed_after {e : Expectation} (expected : s.clock.expected = some e) :
    Carried loses (missedOnce e s) (declareMissed s) := by
  rw [declareMissed_some expected]
  split
  · exact loseClock_carried 1 _
  · exact .refl _

theorem clockLossNoticed_after {u : State} (noticed : ClockLossNoticed u t) (engine : u.engine = s.engine)
    (plan : u.plan = s.plan) (steps : u.steps = s.steps) (counter : readCounter u 19 = readCounter s 19) :
    ClockLossNoticed s t := by
  have step : ∀ n, planStep u n = planStep s n := fun n => by rw [planStep, planStep, steps]
  obtain ⟨accumulating, otherPass, active, notActive⟩ := noticed
  simp only [engine, plan, counter, step] at accumulating otherPass active notActive
  exact ⟨accumulating, otherPass, active, notActive⟩

/-- The POSITION enters the LOOP class and is counted as a held frame. -/
theorem missedOnce_synthesized {e : Expectation} {h : Nat} (busy : s.out.sending.isSome = true) (synthesized : Synthesized s h) :
    readCounter (missedOnce e s) 20 = saturated (readCounter s 20) 1 ∧
      readCounter (missedOnce e s) 13 = (if s.out.loop.length < 8 then readCounter s 13 else saturated (readCounter s 13) 1) ∧
      (missedOnce e s).out.loop = (if s.out.loop.length < 8 then s.out.loop else s.out.loop.drop 1) ++ [positionFrame
        { synthesizedPosition h e.wedge (headContext s h) with
          flags := { (synthesizedPosition h e.wedge (headContext s h)).flags with attention := attention s } }] := by
  rw [missedOnce_some synthesized]
  have missed : ∀ k, k ≠ 10 →
      readCounter (setClock (missedClock s.settings e s.clock) (bump .missedWedges s)) k = readCounter s k :=
    fun k other => (Laws.readCounter_bump .missedWedges k s).trans (if_neg other)
  refine ⟨?_, ?_, offerLoop_busy _ busy⟩
  · rw [Laws.readCounter_bump, if_pos (by rfl)]
    have offered := offerPosition_carried (synthesizedPosition h e.wedge (headContext s h))
      (setClock (missedClock s.settings e s.clock) (bump .missedWedges s))
    rw [offered.counter_eq (c := .heldFrames) (by decide)]
    exact congrArg (saturated · 1) (missed 20 (by decide))
  · rw [Laws.readCounter_bump, if_neg (by decide)]
    refine (readCounter_offerLoop_drop _ _).trans ?_
    rw [missed 13 (by decide)]
    rfl

/-- Without one the LOOP class and its counters stand. -/
theorem missedOnce_unsynthesized {e : Expectation} (none : ∀ h, ¬Synthesized s h) : (missedOnce e s).out.loop = s.out.loop ∧
    readCounter (missedOnce e s) 20 = readCounter s 20 ∧ readCounter (missedOnce e s) 13 = readCounter s 13 := by
  rw [missedOnce_none e none]
  exact ⟨rfl, Laws.readCounter_bump .missedWedges 20 s, Laws.readCounter_bump .missedWedges 13 s⟩

/-- The clock that coasts on the prediction. -/
theorem missedClock_coasting {set : Settings} {e : Expectation} {c : Clock} (running : c.state = .locked ∨ c.state = .coasting) :
    missedClock set e c = { c with
      state := .coasting
      missCount := c.missCount + 1
      missed := c.missed ++ [e.wedge]
      lastIndex := if e.wedge = 0 then some e.predicted else c.lastIndex
      expected := some
        { wedge := if e.wedge + 1 < set.wedges then e.wedge + 1 else 0
          predicted := e.predicted + (if e.wedge < c.remainder then c.period + 1 else c.period)
          halfWidth := c.period / 2 ^ (set.windowCode + 2) } } := by
  have state : (if c.state = .locked then ClockState.coasting else c.state) = .coasting := by
    rcases running with locked | coasting
    · rw [if_pos locked]
    · rw [coasting]; rfl
  simp only [missedClock, state]
  rfl

/-- At the loss limit: the loss follows the missed wedge (R70). -/
theorem declareMissed_lost {e : Expectation} (expected : s.clock.expected = some e)
    (running : s.clock.state = .locked ∨ s.clock.state = .coasting) (busy : s.out.sending.isSome = true)
    (limit : s.settings.lossLimit ≤ s.clock.missCount + 1) :
    (declareMissed s).clock = lostClock (missedClock s.settings e s.clock) ∧
      (declareMissed s).out.refreshTimer = some 10 ∧ ClockLossNoticed s (declareMissed s) ∧
      (s.out.report.length < 32 → (declareMissed s).alerts.flags = raised s.alerts.flags [0] ∧
        (declareMissed s).out.report = s.out.report ++
          [reportBytes 1 s.clock.stamp (clockNotice 2 1 (lostClock (missedClock s.settings e s.clock)))]) := by
  have carried := missedOnce_carried e s
  obtain ⟨f, sending⟩ := Option.isSome_iff_exists.mp busy
  have busy' : (missedOnce e s).out.sending.isSome = true := by rw [carried.sending sending]; rfl
  have report := carried.report_eq rfl sending
  have flags : (missedOnce e s).alerts.flags = s.alerts.flags := flags_of_carried carried rfl
  have runs : (missedOnce e s).clock.state.running = true := by
    rw [missedOnce_clock, missedClock_running]
    exact running_iff.mpr running
  rw [declareMissed_some expected, if_pos limit, loseClock_clock, loseClock_timer, departure_timer runs, missedOnce_clock]
  obtain ⟨engine, plan, steps, -⟩ := missedOnce_fields e s
  refine ⟨rfl, rfl, clockLossNoticed_after (loseClock_noticed 1 runs) engine plan steps
    (carried.counter_eq (c := .passRestarts) (by decide)), fun room => ?_⟩
  have room' : (missedOnce e s).out.report.length < 32 := by rw [report]; exact room
  rw [loseClock_flags 1 busy' room', loseClock_report 1 busy' room', report, flags, missedOnce_clock]
  exact ⟨rfl, rfl⟩

/-! ### Windows that have closed (R65) -/

theorem declareMissed_progress {n : Nat}
    (h : s.clock.expected = none ∨ s.settings.lossLimit ≤ s.clock.missCount + (n + 1)) (past : s.clock.expected.isSome = true) :
    (declareMissed s).clock.expected = none ∨
      (1 ≤ n ∧ (declareMissed s).settings.lossLimit ≤ (declareMissed s).clock.missCount + n) := by
  obtain ⟨e, expected⟩ := Option.isSome_iff_exists.mp past
  have limit := h.resolve_left (by simp [expected])
  rw [declareMissed_some expected]
  split
  · exact .inl (by simp [lostClock])
  · right
    simp only [missedOnce_fields, missedOnce_clock, missedClock, giveReference]
    omega

/-- The closings before a frame are missed wedges, each of a window that has closed. -/
theorem closePast_runs (arrival : Nat) : ∀ (n : Nat) (s : State),
    s.clock.expected = none ∨ (1 ≤ n ∧ s.settings.lossLimit ≤ s.clock.missCount + n) →
    ∃ k, k ≤ n ∧ runs (List.replicate k .wedgeMissed) s = some (closePast arrival n s) ∧
      (∀ j < k, ∃ v, runs (List.replicate j .wedgeMissed) s = some v ∧ windowPast arrival v.clock = true) ∧
      windowPast arrival (closePast arrival n s).clock = false
  | 0, s, h => by
    obtain ⟨none⟩ : s.clock.expected = none ∧ True := ⟨h.resolve_right (by omega), trivial⟩
    exact ⟨0, le_rfl, rfl, fun j hj => absurd hj (by omega), by simp [closePast, windowPast, none]⟩
  | n + 1, s, h => by
    unfold closePast
    split
    · next past =>
      have some : s.clock.expected.isSome = true := by
        unfold windowPast at past
        split at past
        · next expected => rw [expected]; rfl
        · cases past
      have progress := declareMissed_progress (h.imp_right And.right) some
      obtain ⟨k, small, run, closing, closed⟩ := closePast_runs arrival n (declareMissed s) progress
      refine ⟨k + 1, by omega, run, fun j hj => ?_, closed⟩
      rcases j with _ | j
      · exact ⟨s, rfl, past⟩
      · exact closing j (by omega)
    · next open_ => exact ⟨0, by omega, rfl, fun j hj => absurd hj (by omega), by simpa using open_⟩

theorem closePast_open {now : Nat} (n : Nat) (closed : windowPast now s.clock = false) : closePast now n s = s := by
  cases n with
  | zero => rfl
  | succ n => simp [closePast, closed]

theorem exec_wedge (arrival : Nat) {f : WedgeFrame} (taken : linkCheck .front f.bytes = none) :
    exec (.wedge arrival f) s = .next (takeWedge arrival (readWedge f) f.bytes s) := by
  show Host.Outcome.next (frontChecked f.bytes _ s) = _
  rw [frontChecked, taken]

/-- A frame before whose arrival no window closed. -/
theorem exec_arrived {arrival : Nat} {f : WedgeFrame} (h : Arrives arrival f s) : exec (.wedge arrival f) s = .next
    (if eligible s (readWedge f).head (readWedge f).wedge then handleWedge arrival (readWedge f) f.bytes s
      else passWedge arrival (readWedge f) f.bytes s) := by
  rw [exec_wedge arrival h.taken, takeWedge, closePast_open _ h.windows]

/-- Settles O28: the missed wedge first, then the loss or none; a frame's windows by the closings of `closePast`. -/
theorem missedWedgeCoastsOrLosesTheClock : Obligations.MissedWedgeCoastsOrLosesTheClock := by
  refine ⟨fun s none => congrArg Host.Outcome.next (declareMissed_none none), ?_, fun s arrival f taken limit => ?_⟩
  · intro s e c synthesized expected running busy
    have after := declareMissed_after expected
    have carried := (missedOnce_carried e s).mono (G := misses) (by decide) |>.trans (declareMissed_after expected |>.mono (by decide))
    obtain ⟨g, sending⟩ := Option.isSome_iff_exists.mp busy
    have sending' : (missedOnce e s).out.sending = some g := (missedOnce_carried e s).sending sending
    have loop := after.loop_eq rfl sending'
    have held := after.counter_eq (c := .heldFrames) (by decide)
    have dropped := after.counter_eq (c := .loopDrop) (by decide)
    have counted := (after.counter_eq (c := .missedWedges) (by decide)).trans (readCounter_missedOnce e s)
    refine ⟨declareMissed s, rfl, counted, fun none => ?_, fun h synthesized => ?_, ?_⟩
    · obtain ⟨loop', held', dropped'⟩ := missedOnce_unsynthesized (e := e) none
      exact ⟨loop.trans loop', held.trans held', dropped.trans dropped'⟩
    · obtain ⟨held', dropped', loop'⟩ := missedOnce_synthesized (e := e) busy synthesized
      exact ⟨held.trans held', dropped.trans dropped', loop.trans loop'⟩
    · simp only [Laws.declareMissed_frame, carried.mask, true_and]
      refine ⟨fun below => ?_, fun limit => ?_⟩
      · rw [declareMissed_some expected, if_neg (Nat.not_le.mpr below), missedOnce_clock, missedClock_coasting running]
        exact ⟨rfl, (missedOnce_fields e s).1, (missedOnce_fields e s).2.1, flags_of_carried (missedOnce_carried e s) rfl,
          (missedOnce_carried e s).report_eq rfl sending⟩
      · obtain ⟨clock, timer, noticed, announced⟩ := declareMissed_lost expected running busy limit
        rw [clock]
        exact ⟨rfl, rfl, rfl, rfl, rfl, rfl, rfl, rfl, rfl, rfl, timer, noticed, announced⟩
  · obtain ⟨k, small, run, closing, closed⟩ := closePast_runs arrival 15 s (.inr ⟨by decide, by omega⟩)
    refine ⟨k, _, small, run, closing, ⟨taken, closed⟩, ?_⟩
    rw [exec_wedge arrival taken, exec_wedge arrival taken, takeWedge, takeWedge, closePast_open _ closed]
    rfl

end Sys2Proof.Misses
end

section
/-! PROOFS. A WEDGE frame below W and the clock: what the clock stage makes of it, and what the other stages add to that
(R59 to R72). -/

namespace Sys2Proof.Arrivals

set_option Elab.async false

open Sys2Proof.Machine Sys2Proof.Safety Sys2Proof.Traffic Sys2Proof.ClockLaw Sys2Proof.Notices Sys2Proof.Misses
  Sys2Proof.Losses

variable {s t : State} {arrival : Nat} {f : WedgeFrame}

/-! ### The clock after a frame -/

/-- The clock after a frame taken outside LOCKED and COASTING (R60 to R62). -/
def acquiredClock (set : Settings) (arrival w : Nat) (index : Bool) (c : Clock) : Clock :=
  if c.state = .acquiring then
    match c.acquisition with
    | some a =>
      if index then
        if measurementGood set.wedges arrival a then lockedClock set arrival a (startIdle set c)
        else startMeasurement arrival w (startIdle set c)
      else { startIdle set c with acquisition := some (countAcquisition w a) }
    | none => if index then startMeasurement arrival w (startIdle set c) else startIdle set c
  else if index then { startMeasurement arrival w (startIdle set c) with state := .acquiring }
  else c

theorem acquireFrame_started {a : Acquisition} (state : s.clock.state = .acquiring) (started : s.clock.acquisition = some a)
    (arrival w : Nat) (index : Bool) : acquireFrame arrival w index s =
      if index then endMeasurement arrival w a (setClock (startIdle s.settings s.clock) s)
      else setClock { startIdle s.settings s.clock with acquisition := some (countAcquisition w a) }
        (setClock (startIdle s.settings s.clock) s) := by
  simp only [acquireFrame, state, started, Laws.setClock_clock]

theorem acquireFrame_waiting (state : s.clock.state = .acquiring) (waiting : s.clock.acquisition = none) (arrival w : Nat)
    (index : Bool) : acquireFrame arrival w index s = setClock
      (if index then startMeasurement arrival w (startIdle s.settings s.clock) else startIdle s.settings s.clock) s := by
  simp only [acquireFrame, state, waiting]

theorem acquireFrame_idle (state : s.clock.state ≠ .acquiring) (arrival w : Nat) (index : Bool) :
    acquireFrame arrival w index s =
      if index then setClock { startMeasurement arrival w (startIdle s.settings s.clock) with state := .acquiring } s
      else s := by
  unfold acquireFrame
  split
  · next acquiring _ => exact absurd acquiring state
  · next acquiring _ => exact absurd acquiring state
  · rfl

theorem acquireFrame_clock (arrival w : Nat) (index : Bool) (s : State) :
    (acquireFrame arrival w index s).clock = acquiredClock s.settings arrival w index s.clock := by
  unfold acquiredClock
  split
  · next state =>
    rcases started : s.clock.acquisition with _ | a
    · rw [acquireFrame_waiting state started]
      rfl
    · rw [acquireFrame_started state started]
      dsimp only
      split
      · exact endMeasurement_clock arrival w a _
      · rfl
  · next state =>
    rw [acquireFrame_idle state]
    split <;> rfl

/-- The clock after a ruling (R65, R67, R68). -/
def ruledClock (set : Settings) (r : Ruling) (arrival w : Nat) (c : Clock) : Clock :=
  match r with
  | .unruled | .late => c
  | .onTime => onTimeClock set arrival w c
  | .early => earlyClock set w c
  | .slip => slipClock c

theorem applyRuling_clock (r : Ruling) (arrival w : Nat) (s : State) :
    (applyRuling r arrival w s).clock = ruledClock s.settings r arrival w s.clock := by
  cases r with
  | slip => simp [applyRuling, ruledClock]
  | _ => rfl

/-- The clock after a frame. -/
def clockAfter (set : Settings) (arrival w : Nat) (index : Bool) (c : Clock) : Clock :=
  if c.state.running then ruledClock set (ruleFrame c arrival w index) arrival w (startIdle set c)
  else acquiredClock set arrival w index c

theorem ruleStage_clock (arrival w : Nat) (index : Bool) (s : State) :
    (ruleStage arrival w index s).1.clock = clockAfter s.settings arrival w index s.clock := by
  unfold ruleStage clockAfter
  split
  · exact applyRuling_clock _ arrival w _
  · exact acquireFrame_clock arrival w index s

theorem ruledClock_stamp (set : Settings) (r : Ruling) (arrival w : Nat) (c : Clock) :
    (ruledClock set r arrival w c).stamp = c.stamp := by
  cases r with
  | onTime =>
    simp only [ruledClock, onTimeClock, giveReference]
    split
    · unfold remeasure
      split
      · split <;> rfl
      · rfl
    · rfl
  | early =>
    simp only [ruledClock, earlyClock]
    split <;> rfl
  | _ => rfl

theorem acquiredClock_stamp (set : Settings) (arrival w : Nat) (index : Bool) (c : Clock) :
    (acquiredClock set arrival w index c).stamp = c.stamp := by
  unfold acquiredClock
  split
  · split
    · split
      · split <;> rfl
      · rfl
    · split <;> rfl
  · split <;> rfl

theorem clockAfter_stamp (set : Settings) (arrival w : Nat) (index : Bool) (c : Clock) :
    (clockAfter set arrival w index c).stamp = c.stamp := by
  unfold clockAfter
  split
  · exact ruledClock_stamp _ _ _ _ _
  · exact acquiredClock_stamp _ _ _ _ _

/-! ### A frame below W -/

/-- The state in which the clock finds a frame. -/
def foundBy (f : WedgeRead) (s : State) : State :=
  if eligible s f.head f.wedge then contextFound f s
  else if s.settings.headCount ≤ f.head then bump .foreignHead s else s

/-- What comes after the clock's own part in a frame. -/
def afterwards : Footprint :=
  { counters := [.foreignHead, .wedgeRange, .loopDrop, .reportDrop, .budgetDrop, .defectDrop, .passRestarts, .heldFrames,
      .saturatedFrames, .thinWedges, .stepsFailed]
    alerts := [.offtrack, .defectConfirmed, .defectFull, .reportOverflow, .stepDone, .stepFailed, .planEnd]
    loop := true
    report := true
    budget := true }

theorem foundBy_carried (f : WedgeRead) (s : State) :
    Carried { counters := [.foreignHead, .passRestarts] } s (foundBy f s) := by
  unfold foundBy
  split_ifs
  · exact (contextFound_carried f s).mono (by decide)
  · exact counted_bump s (by decide)
  · exact .refl s

@[simp] theorem foundBy_clock (f : WedgeRead) (s : State) :
    (foundBy f s).clock = s.clock ∧ (foundBy f s).settings = s.settings := by
  unfold foundBy
  split_ifs <;> simp [contextFound]

theorem clockStage_after (arrival h w : Nat) (index : Bool) (s : State) :
    Carried afterwards (ruleStage arrival w index s).1 (clockStage arrival h w index s).1 := by
  unfold clockStage
  dsimp only
  split
  · exact (revolutionEvent_carried h _).mono (by decide)
  · exact .refl _

theorem handleWedge_after (arrival : Nat) (f : WedgeRead) (bytes : Frame) (s : State) :
    Carried afterwards (ruleStage arrival f.wedge f.index (contextFound f s)).1 (handleWedge arrival f bytes s) ∧
      (handleWedge arrival f bytes s).clock = (ruled arrival f s).1.clock := by
  have applied : Carried afterwards _ (applied arrival f s).1 :=
    (clockStage_after arrival f.head f.wedge f.index (contextFound f s)).andThen (applyStage_carried f.head f.index _)
  have learned : Carried afterwards _ (learned arrival f s) :=
    (applied.andThen (planStage_carried _ _ _ _)).trans (engineStage_carried _ _ _ _)
  have classed : Carried afterwards _ (classed arrival f s).1 := learned.andThen (frameStage_carried f _ _)
  rw [handleWedge_eq]
  refine ⟨(classed.andRest (alerts := by simp)).andThen (forward_carried bytes _ _), ?_⟩
  simp [Traffic.classed, Traffic.learned, planned, Traffic.applied]

theorem passWedge_after {f : WedgeRead} (below : f.wedge < s.settings.wedges) (arrival : Nat) (bytes : Frame) :
    Carried afterwards
      (ruleStage arrival f.wedge f.index (if s.settings.headCount ≤ f.head then bump .foreignHead s else s)).1
        (passWedge arrival f bytes s) ∧
      (passWedge arrival f bytes s).clock = (clockStage arrival f.head f.wedge f.index
        (if s.settings.headCount ≤ f.head then bump .foreignHead s else s)).1.clock := by
  unfold passWedge
  dsimp only
  rw [if_neg (Nat.not_le.mpr below)]
  exact ⟨((((clockStage_after arrival f.head f.wedge f.index _).andThen (planStage_carried _ _ _ _)).trans
    (engineStage_carried _ _ _ _))).andThen (offerLoop_carried bytes _), by simp⟩

/-- A frame below W: the clock's part, then what the other blocks make of it, which leaves the clock, its timer, its counters
and its alerts. -/
theorem exec_below (h : Arrives arrival f s) (below : (readWedge f).wedge < s.settings.wedges) :
    ∃ t, exec (.wedge arrival f) s = .next t ∧
      Carried afterwards (ruleStage arrival (readWedge f).wedge (readWedge f).index (foundBy (readWedge f) s)).1 t ∧
      t.clock = { clockAfter s.settings arrival (readWedge f).wedge (readWedge f).index s.clock with
        stamp := if s.clock.state.running && (readWedge f).index then s.clock.stamp + 1 else s.clock.stamp } := by
  have clock : (clockStage arrival (readWedge f).head (readWedge f).wedge (readWedge f).index
      (foundBy (readWedge f) s)).1.clock = { clockAfter s.settings arrival (readWedge f).wedge (readWedge f).index s.clock with
        stamp := if s.clock.state.running && (readWedge f).index then s.clock.stamp + 1 else s.clock.stamp } := by
    rw [clockStage_clock, ruleStage_clock, clockAfter_stamp]
    simp only [foundBy_clock]
  rw [exec_arrived h]
  refine ⟨_, rfl, ?_⟩
  unfold foundBy at clock ⊢
  split
  · next eligible =>
    rw [if_pos eligible] at clock
    obtain ⟨carried, kept⟩ := handleWedge_after arrival (readWedge f) f.bytes s
    exact ⟨carried, kept.trans clock⟩
  · next ineligible =>
    rw [if_neg ineligible] at clock
    obtain ⟨carried, kept⟩ := passWedge_after below arrival f.bytes
    exact ⟨carried, kept.trans clock⟩

/-- Settles O27: past W the clock is not reached. -/
theorem stampCountsRevolutionEvents : Obligations.StampCountsRevolutionEvents := by
  intro s arrival f r h
  by_cases below : r.wedge < s.settings.wedges
  · obtain ⟨t, run, -, clock⟩ := exec_below h below
    refine ⟨t, run, ?_⟩
    rw [clock]
    show (if _ then _ else _) = _
    simp only [← Departures.running_iff, below, true_and, Bool.and_eq_true, and_comm]
    rfl
  · have ineligible : eligible s r.head r.wedge = false := by
      rw [← Bool.not_eq_true, DefectTable.eligible_iff]
      omega
    refine ⟨_, exec_arrived h, ?_⟩
    rw [if_neg (by simp [r, ineligible]), if_neg fun e => below e.2.1, passWedge]
    dsimp only
    rw [if_pos (Nat.not_lt.mp below)]
    split <;> simp

end Sys2Proof.Arrivals
end

section
/-! PROOFS. The rulings on a frame in LOCKED and COASTING, and acquisition outside them: clock, counters, announcements (R60 to R70). -/

namespace Sys2Proof.Rulings

set_option Elab.async false

open Sys2Proof.Machine Sys2Proof.Safety Sys2Proof.Traffic Sys2Proof.ClockLaw Sys2Proof.Notices Sys2Proof.Misses
  Sys2Proof.Losses Sys2Proof.Arrivals

variable {s t : State} {arrival : Nat} {f : WedgeFrame}

/-! ### A running clock -/

theorem readCounter_applyRuling_windowMiss (r : Ruling) (arrival w : Nat) (s : State) :
    readCounter (applyRuling r arrival w s) 9 = if r = .early then saturated (readCounter s 9) 1 else readCounter s 9 := by
  have carried := applyRuling_carried r arrival w s
  cases r with
  | early => exact Laws.readCounter_bump .windowMiss 9 _
  | _ => exact carried.counter_eq (c := .windowMiss) (by decide)

theorem readCounter_applyRuling_slips (r : Ruling) (arrival w : Nat) (s : State) :
    readCounter (applyRuling r arrival w s) 11 = if r = .slip then saturated (readCounter s 11) 1 else readCounter s 11 := by
  have carried := applyRuling_carried r arrival w s
  cases r with
  | slip =>
    have departed := (departure_carried (bump .slips s)).counter_eq (c := .slips) (by decide)
    exact Eq.trans (show _ = _ from departed) (Laws.readCounter_bump .slips 11 s)
  | _ => exact carried.counter_eq (c := .slips) (by decide)

theorem ruleStage_running (running : s.clock.state.running = true) (arrival w : Nat) (index : Bool) :
    (ruleStage arrival w index s).1 =
      applyRuling (ruleFrame s.clock arrival w index) arrival w (setClock (startIdle s.settings s.clock) s) := by
  simp only [ruleStage, running, if_true]

/-- A frame below W that finds the clock running. -/
theorem exec_ruled (h : Arrives arrival f s) (below : (readWedge f).wedge < s.settings.wedges)
    (running : s.clock.state = .locked ∨ s.clock.state = .coasting) {r : Ruling}
    (ruling : ruleFrame s.clock arrival (readWedge f).wedge (readWedge f).index = r) :
    ∃ t, exec (.wedge arrival f) s = .next t ∧
      t.clock = { ruledClock s.settings r arrival (readWedge f).wedge (startIdle s.settings s.clock) with
        stamp := if (readWedge f).index then s.clock.stamp + 1 else s.clock.stamp } ∧
      readCounter t 9 = (if r = .early then saturated (readCounter s 9) 1 else readCounter s 9) ∧
      readCounter t 11 = (if r = .slip then saturated (readCounter s 11) 1 else readCounter s 11) ∧
      (r = .slip → t.out.refreshTimer = some 10) := by
  have runs := Departures.running_iff.mpr running
  obtain ⟨t, run, after, clock⟩ := exec_below h below
  have before := foundBy_carried (readWedge f) s
  obtain ⟨same, settings⟩ := foundBy_clock (readWedge f) s
  generalize foundBy (readWedge f) s = u at after before same settings
  rw [ruleStage_running (by rw [same]; exact runs), same, ruling] at after
  refine ⟨t, run, ?_, ?_, ?_, fun slip => ?_⟩
  · rw [clock, clockAfter, if_pos runs, ruling, runs]
    rfl
  · refine (after.counter_eq (c := .windowMiss) (by decide)).trans ((readCounter_applyRuling_windowMiss _ _ _ _).trans ?_)
    exact congrArg (fun n => if r = .early then saturated n 1 else n) (before.counter_eq (c := .windowMiss) (by decide))
  · refine (after.counter_eq (c := .slips) (by decide)).trans ((readCounter_applyRuling_slips _ _ _ _).trans ?_)
    exact congrArg (fun n => if r = .slip then saturated n 1 else n) (before.counter_eq (c := .slips) (by decide))
  · rw [after.timer_eq rfl, slip]
    refine departure_timer ?_
    simpa [startIdle, same] using runs

/-- Which ruling it is, while a wedge is expected. -/
theorem ruleFrame_expected {c : Clock} {e : Expectation} (expected : c.expected = some e) (arrival w : Nat) (index : Bool) :
    ruleFrame c arrival w index =
      if w = e.wedge ∧ (index = true ↔ w = 0) then if arrival + e.halfWidth < e.predicted then .early else .onTime
      else if w ∈ c.missed then .late else .slip := by
  have index_eq : index = (w == 0) ↔ (index = true ↔ w = 0) := by
    rw [Bool.eq_iff_iff, beq_iff_eq]
  simp only [ruleFrame, expected, index_eq]

/-- Settles O25: the four rulings exclude each other. -/
theorem framesAreRuledAgainstTheExpectation : Obligations.FramesAreRuledAgainstTheExpectation := by
  intro s arrival f e r c found next step half idle stamp arrives below running expected
  have ruling := ruleFrame_expected expected arrival r.wedge r.index
  obtain ⟨t, run, clock, missed, slips, timer⟩ := exec_ruled arrives below running rfl
  rw [show ruleFrame s.clock arrival (readWedge f).wedge (readWedge f).index = _ from ruling] at clock missed slips timer
  refine ⟨t, run, fun hit away inside => ?_, fun hit early => ?_, fun other listed => ?_, fun other unlisted => ?_⟩
  · rw [if_pos hit, if_neg (Nat.not_lt.mpr inside)] at clock missed slips
    have plain : r.index = false := by
      rw [← Bool.not_eq_true, hit.2]
      exact away
    refine ⟨?_, missed, slips⟩
    rw [clock, show (readWedge f).index = false from plain]
    simp only [ruledClock, onTimeClock, show (readWedge f).wedge ≠ 0 from away, if_false, giveReference]
    rfl
  · rw [if_pos hit, if_pos early] at clock missed slips
    refine ⟨?_, missed, slips⟩
    rw [clock]
    simp only [ruledClock, earlyClock, startIdle, show s.clock.expected = some e from expected, giveReference]
    rfl
  · rw [if_neg other, if_pos listed] at clock missed slips
    exact ⟨clock, missed, slips⟩
  · rw [if_neg other, if_neg unlisted] at clock missed slips timer
    rw [clock]
    exact ⟨rfl, rfl, rfl, rfl, rfl, rfl, rfl, rfl, rfl, rfl, timer rfl, missed, slips⟩

/-! ### The revolution measured anew (R63) -/

theorem plausible_iff {wedges length : Nat} : plausible wedges length = true ↔ 200 ≤ length / wedges ∧ length / wedges ≤ 65535 := by
  simp only [plausible, Bool.and_eq_true, decide_eq_true_eq]
  rfl

theorem remainder_eq (length w : Nat) : length - length / w * w = length % w := by
  have := Nat.div_add_mod' length w
  omega

theorem nextWedge_zero {w : Nat} (h : 64 ≤ w) : nextWedge w 0 = 1 := if_pos (by omega)

/-- Settles O26: the ruling is on time, and the reference of the last index wedge is the measurement's start. -/
theorem onTimeIndexFrameRemeasures : Obligations.OnTimeIndexFrameRemeasures := by
  intro s arrival last f e r c w length ok arrives zero index wide running expected first inside reference
  have ruling : ruleFrame s.clock arrival (readWedge f).wedge (readWedge f).index = .onTime := by
    rw [ruleFrame_expected expected, if_pos ⟨zero.trans first.symm, by rw [index, zero]; simp⟩, if_neg (by omega)]
  have below : (readWedge f).wedge < s.settings.wedges := by
    rw [show (readWedge f).wedge = 0 from zero]
    omega
  obtain ⟨t, run, clock, missed, slips, -⟩ := exec_ruled arrives below running ruling
  rw [show (readWedge f).index = true from index, show (readWedge f).wedge = 0 from zero] at clock
  have measured : remeasure s.settings arrival (startIdle s.settings c) =
      if plausible w length then storeLength w length (startIdle s.settings c) else startIdle s.settings c := by
    simp only [remeasure, startIdle, reference]
    rfl
  refine ⟨t, run, ?_⟩
  rw [clock]
  refine ⟨rfl, rfl, rfl, rfl, rfl, ?_, ?_, missed, slips, fun good => ?_, fun bad => ?_, ?_⟩
  · simp [ruledClock, onTimeClock, giveReference, startIdle]
  · show (remeasure s.settings arrival (startIdle s.settings c)).acquisition = _
    rw [measured]
    split <;> rfl
  · show (remeasure s.settings arrival (startIdle s.settings c)).revLength = _ ∧
      (remeasure s.settings arrival (startIdle s.settings c)).period = _ ∧
      (remeasure s.settings arrival (startIdle s.settings c)).remainder = _
    rw [measured, if_pos (plausible_iff.mpr good)]
    exact ⟨rfl, rfl, remainder_eq length w⟩
  · show (remeasure s.settings arrival (startIdle s.settings c)).revLength = _ ∧
      (remeasure s.settings arrival (startIdle s.settings c)).period = _ ∧
      (remeasure s.settings arrival (startIdle s.settings c)).remainder = _
    rw [measured, if_neg fun good => bad (plausible_iff.mp good)]
    exact ⟨rfl, rfl, rfl⟩
  · have next : nextWedge s.settings.wedges 0 = 1 := nextWedge_zero wide
    simp only [ruledClock, onTimeClock, giveReference, next]
    rfl

/-! ### Acquisition (R60 to R62) -/

/-- While a frame is being sent, reports only enter the queue. -/
theorem report_grows {F : Footprint} (h : Carried F s t) {g : Frame} (sending : s.out.sending = some g) :
    ∃ later, t.out.report = s.out.report ++ later := by
  induction h with
  | rest _ out => exact ⟨[], by rw [out, List.append_nil]⟩
  | looped f s =>
    refine ⟨[], ?_⟩
    rw [Scheduling.offerLoop_out, Laws.admitted_sending _ g (by simpa using sending), List.append_nil]
  | reported f s =>
    refine ⟨[f], ?_⟩
    rw [Laws.admitted_sending _ g (by simpa using sending)]
  | trans h₁ _ ih₁ ih₂ =>
    obtain ⟨first, e₁⟩ := ih₁ sending
    obtain ⟨second, e₂⟩ := ih₂ (h₁.sending sending)
    exact ⟨first ++ second, by rw [e₂, e₁, List.append_assoc]⟩
  | _ => exact ⟨[], (List.append_nil _).symm⟩

theorem ruleStage_stopped (stopped : s.clock.state.running = false) (arrival w : Nat) (index : Bool) :
    (ruleStage arrival w index s).1 = acquireFrame arrival w index s := by
  simp [ruleStage, stopped]

theorem measurementGood_iff {w arrival : Nat} {a : Acquisition} : measurementGood w arrival a = true ↔
    a.good = true ∧ a.frames = w ∧ 200 ≤ (arrival - a.start) / w ∧ (arrival - a.start) / w ≤ 65535 := by
  rw [measurementGood, Bool.and_eq_true, Bool.and_eq_true, beq_iff_eq, plausible_iff, and_assoc]

/-- What the entry to LOCKED announces. -/
theorem lockClock_announces (arrival : Nat) (a : Acquisition) (s : State) :
    (lockClock arrival a s).out.refreshTimer = none ∧ (lockClock arrival a s).alerts.flags.getLsbD 1 = true ∧
      (∀ g, s.out.sending = some g → s.out.report.length < 32 → (lockClock arrival a s).out.report = s.out.report ++
        [reportBytes 1 s.clock.stamp (clockNotice 1 0 (lockedClock s.settings arrival a s.clock))]) := by
  rw [lockClock_eq]
  have offered := offerReport_carried 1 (clockNotice 1 0 (lockedClock s.settings arrival a s.clock))
    (raise .clockLocked (setRefreshTimer none (setClock (lockedClock s.settings arrival a s.clock) s)))
  refine ⟨offered.timer_eq rfl, offered.flag_stays (by simp [Alert.weight, Alert.position]), fun g sending room => ?_⟩
  rw [Outcomes.offerReport_busy]
  · rfl
  · exact Option.isSome_iff_exists.mpr ⟨g, sending⟩
  · exact room

theorem lockedClock_fields {set : Settings} (wide : 64 ≤ set.wedges) (arrival : Nat) (a : Acquisition) (c : Clock) :
    lockedClock set arrival a c = { c with
      state := .locked
      revLength := arrival - a.start
      period := (arrival - a.start) / set.wedges
      remainder := (arrival - a.start) % set.wedges
      lastIndex := some arrival
      missCount := 0
      missed := []
      acquisition := none
      expected := some
        { wedge := 1
          predicted := arrival + (if (arrival - a.start) % set.wedges = 0 then (arrival - a.start) / set.wedges
            else (arrival - a.start) / set.wedges + 1)
          halfWidth := (arrival - a.start) / set.wedges / 2 ^ (set.windowCode + 2) } } := by
  have period : (if 0 < (arrival - a.start) % set.wedges then (arrival - a.start) / set.wedges + 1
      else (arrival - a.start) / set.wedges) = if (arrival - a.start) % set.wedges = 0 then (arrival - a.start) / set.wedges
        else (arrival - a.start) / set.wedges + 1 := by
    split_ifs <;> omega
  simp only [lockedClock, giveReference, storeLength, nextWedge_zero wide, remainder_eq, wedgePeriod, windowHalfWidth, if_true,
    period]

/-- The index frame that ends a measurement. -/
theorem acquireFrame_ends {a : Acquisition} (state : s.clock.state = .acquiring) (started : s.clock.acquisition = some a)
    (arrival w : Nat) : acquireFrame arrival w true s =
      endMeasurement arrival w a (setClock (startIdle s.settings s.clock) s) := by
  rw [acquireFrame_started state started, if_pos rfl]

/-- Any other frame outside LOCKED and COASTING touches the clock alone. -/
theorem acquireFrame_carried_rest (starts : index = true → s.clock.state = .acquiring → s.clock.acquisition = none)
    (arrival w : Nat) : Carried {} s (acquireFrame arrival w index s) := by
  by_cases state : s.clock.state = .acquiring
  · rcases started : s.clock.acquisition with _ | a
    · rw [acquireFrame_waiting state started]
      exact .rest rfl rfl rfl rfl
    · have plain : index = false := by
        rw [← Bool.not_eq_true]
        intro e
        rw [starts e state] at started
        cases started
      rw [acquireFrame_started state started, plain]
      exact .rest rfl rfl rfl rfl
  · rw [acquireFrame_idle state]
    split <;> exact .rest rfl rfl rfl rfl

/-- A frame below W that finds the clock standing. -/
theorem exec_stopped (h : Arrives arrival f s) (below : (readWedge f).wedge < s.settings.wedges)
    (stopped : s.clock.state.running = false) :
    ∃ t u, exec (.wedge arrival f) s = .next t ∧ u.clock = s.clock ∧ u.settings = s.settings ∧
      Carried { counters := [.foreignHead, .passRestarts] } s u ∧
      Carried afterwards (acquireFrame arrival (readWedge f).wedge (readWedge f).index u) t ∧
      t.clock = acquiredClock s.settings arrival (readWedge f).wedge (readWedge f).index s.clock := by
  obtain ⟨t, run, after, clock⟩ := exec_below h below
  obtain ⟨same, settings⟩ := foundBy_clock (readWedge f) s
  rw [ruleStage_stopped (by rw [same]; exact stopped)] at after
  refine ⟨t, _, run, same, settings, foundBy_carried (readWedge f) s, after, ?_⟩
  rw [clock, clockAfter, if_neg (by simp [stopped]), if_neg (by simp [stopped]),
    ← acquiredClock_stamp s.settings arrival (readWedge f).wedge (readWedge f).index s.clock]

theorem acquiredClock_ends {set : Settings} {c : Clock} {a : Acquisition} (state : c.state = .acquiring)
    (started : c.acquisition = some a) (arrival w : Nat) : acquiredClock set arrival w true c =
      if measurementGood set.wedges arrival a then lockedClock set arrival a (startIdle set c)
      else startMeasurement arrival w (startIdle set c) := by
  simp only [acquiredClock, state, started, if_true]

theorem acquiredClock_waiting {set : Settings} {c : Clock} (state : c.state = .acquiring) (waiting : c.acquisition = none)
    (arrival w : Nat) (index : Bool) : acquiredClock set arrival w index c =
      if index then startMeasurement arrival w (startIdle set c) else startIdle set c := by
  simp only [acquiredClock, state, waiting, if_true]

theorem acquiredClock_counts {set : Settings} {c : Clock} {a : Acquisition} (state : c.state = .acquiring)
    (started : c.acquisition = some a) (arrival w : Nat) : acquiredClock set arrival w false c =
      { startIdle set c with acquisition := some (countAcquisition w a) } := by
  simp only [acquiredClock, state, started, if_true, Bool.false_eq_true, if_false]

/-- Settles O24: the frame that ends a measurement, and the others. -/
theorem lockMeasuresTheRevolution : Obligations.LockMeasuresTheRevolution := by
  refine ⟨?_, ?_⟩
  · intro s arrival f a r w length period good arrives below wide index state started
    obtain ⟨t, u, run, same, settings, before, after, clock⟩ := exec_stopped arrives below (by rw [state]; rfl)
    rw [show (readWedge f).index = true from index, acquireFrame_ends (by rw [same]; exact state) (by rw [same]; exact started),
      endMeasurement, same, settings] at after
    rw [show (readWedge f).index = true from index, acquiredClock_ends state started] at clock
    have failures : readCounter u 12 = readCounter s 12 := before.counter_eq (c := .acquireFails) (by decide)
    refine ⟨t, run, ?_, ?_, fun locks => ?_, fun fails => ?_⟩
    · rw [clock]
      split <;> rfl
    · rw [clock]
      split <;> rfl
    · have accepted := measurementGood_iff.mpr locks
      rw [if_pos accepted, lockedClock_fields wide] at clock
      rw [Laws.setClock_settings, settings, if_pos accepted] at after
      obtain ⟨timer, flag, report⟩ := lockClock_announces arrival a (setClock (startIdle s.settings s.clock) u)
      have locked := (lockClock_carried arrival a (setClock (startIdle s.settings s.clock) u)).counter_eq (c := .acquireFails)
        (by decide)
      rw [clock]
      refine ⟨rfl, rfl, rfl, rfl, rfl, rfl, rfl, rfl, rfl, (after.timer_eq rfl).trans timer, after.flag_stays flag,
        (after.counter_eq (c := .acquireFails) (by decide)).trans (locked.trans failures), fun busy room => ?_⟩
      obtain ⟨g, sending⟩ := Option.isSome_iff_exists.mp busy
      have sending' : u.out.sending = some g := before.sending sending
      have reported : u.out.report = s.out.report := before.report_eq rfl sending
      obtain ⟨later, grown⟩ := report_grows after ((lockClock_carried arrival a _).sending (s := setClock _ u) sending')
      refine ⟨later, ?_⟩
      rw [grown, report g sending' (by rw [← reported] at room; exact room), lockedClock_fields (by simpa [settings] using wide)]
      simp [reported, settings, startIdle, clockNotice, Outcomes.be_one, w, length, period]
    · have refused : ¬measurementGood s.settings.wedges arrival a = true := fun e => fails (measurementGood_iff.mp e)
      rw [if_neg refused] at clock
      rw [Laws.setClock_settings, settings, if_neg refused] at after
      refine ⟨clock, (after.timer_eq rfl).trans (before.timer_eq rfl),
        (after.counter_eq (c := .acquireFails) (by decide)).trans ((Laws.readCounter_bump .acquireFails 12 _).trans ?_)⟩
      exact congrArg (saturated · 1) failures
  · intro s arrival f r c idle arrives below state starts
    have stopped : s.clock.state.running = false := by rcases state with e | e | e <;> rw [show s.clock.state = _ from e] <;> rfl
    obtain ⟨t, u, run, same, settings, before, after, clock⟩ := exec_stopped arrives below stopped
    have taken := acquireFrame_carried_rest (s := u) (index := r.index)
      (fun index => by rw [same]; exact starts index) arrival r.wedge
    refine ⟨t, run, ?_, ?_, fun index => ?_, fun plain acquiring => ?_, fun plain other => ?_⟩
    · exact (after.counter_eq (c := .acquireFails) (by decide)).trans
        ((taken.counter_eq (c := .acquireFails) (by decide)).trans (before.counter_eq (c := .acquireFails) (by decide)))
    · exact (after.timer_eq rfl).trans ((taken.timer_eq rfl).trans (before.timer_eq rfl))
    · rw [clock, show (readWedge f).index = true from index]
      by_cases acquiring : c.state = .acquiring
      · rw [acquiredClock_waiting acquiring (starts index acquiring), if_pos rfl, ← acquiring]
        rfl
      · rw [acquiredClock, if_neg acquiring, if_pos rfl]
        rfl
    · rw [clock, show (readWedge f).index = false from plain]
      refine ⟨fun a started => ?_, fun waiting => ?_⟩
      · rw [acquiredClock_counts acquiring started]
        rfl
      · rw [acquiredClock_waiting acquiring waiting, if_neg (by decide)]
        rfl
    · rw [show (readWedge f).index = false from plain, acquiredClock, if_neg other] at clock
      exact clock

end Sys2Proof.Rulings
end

section
/-! PROOFS. WEDGE frames, stage by stage, as learning and plan see them: the notices of stages 1 and 2, and the stages that pass
over a head without an ACTIVE step (R50, R73, R80, R85, R122). -/

namespace Sys2Proof.Frames

set_option Elab.async false

open Sys2Proof.Machine Sys2Proof.Safety Sys2Proof.Traffic Sys2Proof.ClockLaw Sys2Proof.Notices Sys2Proof.Departures

variable {s u : State} {f : WedgeRead}

/-! ### Notices -/

/-- The head the frame switches away from has a property (R50). -/
def leaves (f : WedgeRead) (s : State) (p : Nat → Bool) : Bool :=
  match s.activeHead with
  | some g => g != f.head && p g
  | none => false

theorem leaves_same {p : Nat → Bool} (active : s.activeHead = some f.head) : leaves f s p = false := by
  simp [leaves, active]

theorem leaves_first {p : Nat → Bool} (active : s.activeHead = none) : leaves f s p = false := by
  simp [leaves, active]

theorem leaves_away {g : Nat} {p : Nat → Bool} (active : s.activeHead = some g) (other : g ≠ f.head) :
    leaves f s p = p g := by
  simp [leaves, active, other]

/-- The pass-restart counter after a notice (R85). -/
def tallied (e : Engine) (n : Nat) : Nat := if e.pass = .accumulate then saturated n 1 else n

theorem tallied_discarded (e : Engine) (n : Nat) : tallied (discarded e) n = n := if_neg (discarded_pass e)

theorem readCounter_discarded (s : State) : readCounter (discardAccumulation s) 19 = tallied s.engine (readCounter s 19) := by
  rw [readCounter_discard, tallied]
  simp only [true_and]

theorem readCounter_headNotice (h : Nat) (s : State) :
    readCounter (headNotice h s) 19 = if boundTo s h then tallied s.engine (readCounter s 19) else readCounter s 19 := by
  have alerts : (headNotice h s).alerts = (if boundTo s h then discardAccumulation s else s).alerts := by
    unfold headNotice
    dsimp only
    split_ifs <;> simp
  rw [readCounter, alerts]
  split
  · exact readCounter_discarded s
  · rfl

theorem headSwitch_notice {g h : Nat} (active : s.activeHead = some g) (other : g ≠ h) :
    ∃ c, headSwitch h s = headNotice g (setHeadContext h c { s with activeHead := some h }) := by
  have switch : s.activeHead ≠ some h := fun e => other (Option.some.inj (active.symm.trans e))
  unfold headSwitch
  rw [if_neg switch]
  simp only [active]
  exact ⟨_, rfl⟩

/-- What stage 1 does to learning and plan. -/
theorem contextFound_notices (f : WedgeRead) (s : State) :
    (contextFound f s).engine = (if leaves f s (boundTo s) then discarded s.engine else s.engine) ∧
      (contextFound f s).plan = (if leaves f s (fun g => stepHead s == some g) then returned s.steps s.plan else s.plan) ∧
      readCounter (contextFound f s) 19 =
        if leaves f s (boundTo s) then tallied s.engine (readCounter s 19) else readCounter s 19 := by
  have engine : (contextFound f s).engine = (headSwitch f.head s).engine := by simp [contextFound, contextStage]
  have plan : (contextFound f s).plan = (headSwitch f.head s).plan := by simp [contextFound, contextStage]
  have alerts : (contextFound f s).alerts = (headSwitch f.head s).alerts := by simp [contextFound, contextStage]
  rw [engine, plan, readCounter, alerts]
  rcases active : s.activeHead with _ | g
  · obtain ⟨engine, plan, alerts⟩ := headSwitch_first (h := f.head) active
    simp only [leaves_first active, engine, plan, alerts, Bool.false_eq_true, if_false]
    exact ⟨trivial, trivial, rfl⟩
  · by_cases same : g = f.head
    · subst same
      simp only [leaves_same active, headSwitch_same active, Bool.false_eq_true, if_false]
      exact ⟨trivial, trivial, rfl⟩
    · obtain ⟨engine, plan⟩ := headSwitch_away active same
      simp only [leaves_away active same, engine, plan, beq_iff_eq]
      refine ⟨trivial, trivial, ?_⟩
      obtain ⟨c, notice⟩ := headSwitch_notice active same
      rw [notice]
      exact readCounter_headNotice g _

theorem clockStage_restarts (arrival : Nat) (f : WedgeRead) (s : State) :
    readCounter (clockStage arrival f.head f.wedge f.index s).1 19 =
      if rulingOn arrival f s = .slip then tallied s.engine (readCounter s 19) else readCounter s 19 := by
  have event : readCounter (clockStage arrival f.head f.wedge f.index s).1 19 =
      readCounter (ruleStage arrival f.wedge f.index s).1 19 := by
    unfold clockStage
    dsimp only
    split
    · exact (revolutionEvent_carried f.head _).counter_eq (c := .passRestarts) (by decide)
    · rfl
  rw [event]
  by_cases running : s.clock.state.running = true
  · rw [Rulings.ruleStage_running running, rulingOn, if_pos running]
    have carried := applyRuling_carried (ruleFrame s.clock arrival f.wedge f.index) arrival f.wedge
      (setClock (startIdle s.settings s.clock) s)
    cases ruling : ruleFrame s.clock arrival f.wedge f.index with
    | slip =>
      rw [if_pos rfl]
      have departed : readCounter (departure (bump .slips (setClock (startIdle s.settings s.clock) s))) 19 =
          tallied s.engine (readCounter s 19) := by
        rw [readCounter_departure, if_pos (by simpa [startIdle] using running), readCounter_discarded]
        exact congrArg (tallied s.engine) ((Laws.readCounter_bump .slips 19 _).trans (if_neg (by decide)))
      exact departed
    | _ =>
      rw [ruling] at carried
      rw [if_neg (by simp)]
      exact carried.counter_eq (c := .passRestarts) (by decide)
  · rw [Rulings.ruleStage_stopped (by simpa using running), rulingOn, if_neg running, if_neg (by simp)]
    exact (acquireFrame_carried arrival f.wedge f.index s).counter_eq (c := .passRestarts) (by decide)

theorem rulingOn_contextFound (arrival : Nat) (f : WedgeRead) (s : State) :
    rulingOn arrival f (contextFound f s) = rulingOn arrival f s := by
  simp [rulingOn, contextFound]

theorem engineFound_eq (arrival : Nat) (f : WedgeRead) (s : State) : engineFound arrival f s =
    if rulingOn arrival f s = .slip ∨ leaves f s (boundTo s) = true then discarded s.engine else s.engine := by
  unfold engineFound discarded
  by_cases accumulate : s.engine.pass = .accumulate
  · simp only [accumulate, true_and, if_true]
    rfl
  · simp [accumulate]

/-- Stages 1 and 2 leave the engine that `engineFound` names. -/
theorem ruled_engine (arrival : Nat) (f : WedgeRead) (s : State) : (ruled arrival f s).1.engine = engineFound arrival f s := by
  rw [engineFound_eq, ruled, clockStage_engine, rulingOn_contextFound, (contextFound_notices f s).1]
  by_cases slip : rulingOn arrival f s = .slip <;> by_cases left : leaves f s (boundTo s) = true <;>
    simp [slip, left, discarded_idem]

theorem returned_idem (steps : Table PlanStep) (p : Plan) : returned steps (returned steps p) = returned steps p := by
  by_cases active : p.sub = some .active
  · rcases current : p.current with _ | n
    · simp [returned, current]
    · simp [returned, current, active]
  · rw [returned_other active, returned_other active]

theorem planFound_eq (arrival : Nat) (f : WedgeRead) (s : State) : planFound arrival f s =
    if rulingOn arrival f s = .slip ∨ leaves f s (fun g => stepHead s == some g) = true then returned s.steps s.plan
    else s.plan := by
  rcases current : s.plan.current with _ | n
  · simp [planFound, returned, current]
  · by_cases active : s.plan.sub = some .active
    · simp only [returned_active current active]
      simp only [planFound, current, active]
      rfl
    · simp only [returned_other active, ite_self, planFound]
      split
      · next is => exact absurd is active
      · rfl

/-- Stages 1 and 2 leave the plan that `planFound` names. -/
theorem ruled_plan (arrival : Nat) (f : WedgeRead) (s : State) : (ruled arrival f s).1.plan = planFound arrival f s := by
  have steps : (contextFound f s).steps = s.steps := by simp [contextFound]
  rw [planFound_eq, ruled, clockStage_plan, rulingOn_contextFound, (contextFound_notices f s).2.1, steps]
  by_cases slip : rulingOn arrival f s = .slip <;>
    by_cases left : leaves f s (fun g => stepHead s == some g) = true <;> simp [slip, left, returned_idem]

theorem ruled_restarts (arrival : Nat) (f : WedgeRead) (s : State) : readCounter (ruled arrival f s).1 19 =
    if rulingOn arrival f s = .slip ∨ leaves f s (boundTo s) = true then tallied s.engine (readCounter s 19)
    else readCounter s 19 := by
  obtain ⟨engine, -, counter⟩ := contextFound_notices f s
  rw [ruled, clockStage_restarts, rulingOn_contextFound, engine, counter]
  by_cases slip : rulingOn arrival f s = .slip <;> by_cases left : leaves f s (boundTo s) = true <;>
    simp [slip, left, tallied_discarded]

/-! ### Stages that pass over a head -/

/-- The plan has no ACTIVE step on the head. -/
def Unattended (s : State) (h : Nat) : Prop := s.plan.sub = some .active → stepHead s ≠ some h

/-- Learning takes nothing from the head. -/
def Idle (s : State) (h : Nat) : Prop := s.engine.pass = .accumulate → boundTo s h = false

theorem Unattended.step (away : Unattended s h) {n : Nat} (current : s.plan.current = some n) (active : s.plan.sub = some .active) :
    (planStep s n).head ≠ h := fun e => away active (by rw [stepHead, current, ← e]; rfl)

theorem closeRevolution_away (away : Unattended s h) : closeRevolution h s = s := by
  unfold closeRevolution
  split
  · next n current active => exact if_neg (away.step current active)
  · rfl

theorem planStage_away {event : Bool} (away : Unattended s h)
    (stays : event = true → s.plan.sub = some .waiting → activationHolds s h = false) : planStage h event none s = s := by
  have closed : closeStage h event none s = s := by
    unfold closeStage
    rw [closeRevolution_away away]
    split
    · rfl
    · split <;> rfl
  rw [planStage_eq, closed]
  split
  · next event =>
    refine if_neg fun ⟨waiting, holds⟩ => ?_
    rw [stays event waiting] at holds
    cases holds
  · rfl

theorem activeLearnStep_away (away : Unattended s h) : activeLearnStep s h = none := by
  rcases learn : activeLearnStep s h with _ | n
  · rfl
  · obtain ⟨current, active, -, head⟩ := PlanLaw.activeLearnStep_some learn
    exact absurd head (away.step current active)

theorem engineStage_away {event further : Bool} (away : Unattended s h) (idle : Idle s h) :
    engineStage h event further s = s := by
  unfold engineStage
  rw [activeLearnStep_away away]
  split
  · next accumulate =>
    rw [idle accumulate, Bool.and_false]
    rfl
  · rfl
  · exact ite_self s
  · exact ite_self s

theorem contribute_away {c : Contribution} (away : Unattended s c.head) : contribute c s = s := by
  unfold contribute
  split
  · next n current active => exact if_neg fun e => away.step current active e.1
  · rfl

theorem settleWatch_away {tripped trip : Bool} (away : Unattended s h) : settleWatch h tripped trip s = s := by
  unfold settleWatch
  split
  · next n current active => exact if_neg fun e => away.step current active e.2
  · rfl

theorem Unattended.congr (away : Unattended s h) (plan : u.plan = s.plan) (steps : u.steps = s.steps) : Unattended u h := by
  intro active head
  rw [plan] at active
  exact away active ((stepHead_congr (congrArg Plan.current plan) steps).symm.trans head)

theorem demodulatedStage_plan_away {k : FrameFacts} {ec : Int} (away : Unattended s f.head) :
    (demodulatedStage f k ec s).1.plan = s.plan := by
  have contributed : ∀ (c : Contribution) (v : State), c.head = f.head → v.plan = s.plan → v.steps = s.steps →
      (contribute c v).plan = s.plan := fun c v head plan steps => by
    rw [contribute_away (by rw [head]; exact away.congr plan steps), plan]
  unfold demodulatedStage
  split <;> exact contributed _ _ rfl (by simp) (by simp)

/-- Stage 6 leaves learning and plan where the head has no part in them. -/
theorem frameStage_away {k : FrameFacts} (away : Unattended s f.head) (idle : Idle s f.head) :
    (frameStage f k s).1.engine = s.engine ∧ (frameStage f k s).1.plan = s.plan := by
  refine ⟨?_, ?_⟩
  · have sampled := Samples.frameStage_sampled f k s
    generalize (frameStage f k s).1.engine = e at sampled ⊢
    cases sampled with
    | same => rfl
    | added ec _ accumulate bound =>
      rw [idle accumulate] at bound
      cases bound
  · unfold frameStage
    dsimp only
    split
    · rw [settleWatch_away (away.congr (by simp) (by simp))]
      simp
    · next ec _ =>
      have plan := demodulatedStage_plan_away (k := k) (ec := ec) away
      rw [settleWatch_away (away.congr plan (by simp)), plan]

/-- The stages after an apply that is none. -/
theorem handleWedge_away {arrival : Nat} {bytes : Frame} (apply : f.index = true → (ruled arrival f s).1.engine.pass = .solve →
      boundTo (ruled arrival f s).1 f.head = false)
    (away : Unattended (ruled arrival f s).1 f.head) (idle : Idle (ruled arrival f s).1 f.head)
    (stays : (ruled arrival f s).2.event = true → (ruled arrival f s).1.plan.sub = some .waiting →
      activationHolds (ruled arrival f s).1 f.head = false) :
    (handleWedge arrival f bytes s).engine = (ruled arrival f s).1.engine ∧
      (handleWedge arrival f bytes s).plan = (ruled arrival f s).1.plan ∧
      readCounter (handleWedge arrival f bytes s) 19 = readCounter (ruled arrival f s).1 19 := by
  have none : applied arrival f s = ((ruled arrival f s).1, none) := by
    refine if_neg fun e => ?_
    simp only [Bool.and_eq_true, beq_iff_eq] at e
    obtain ⟨⟨index, bound⟩, solve⟩ := e
    rw [apply index solve] at bound
    cases bound
  have planned : planned arrival f s = (ruled arrival f s).1 := by
    rw [planned, none]
    exact planStage_away away stays
  have learned : learned arrival f s = (ruled arrival f s).1 := by
    rw [learned, planned]
    exact engineStage_away away idle
  have carried := (frameStage_carried f (facts arrival f s) (Traffic.learned arrival f s)).counter_eq (c := .passRestarts) (by decide)
  have forwarded := (forward_carried bytes (classed arrival f s).2 (passTargetChange f.head (classed arrival f s).1)).counter_eq
    (c := .passRestarts) (by decide)
  obtain ⟨engine, plan⟩ := frameStage_away (k := facts arrival f s) away idle
  rw [handleWedge_eq]
  refine ⟨?_, ?_, ?_⟩
  · simpa [classed, learned] using engine
  · simpa [classed, learned] using plan
  · rw [learned] at carried
    exact forwarded.trans ((congrArg (fun a => Table.get 0 (Alerts.counters a) 19) (by simp [classed, learned])).trans carried)

/-! ### A frame that is not eligible -/

/-- The state in which the clock finds a frame that is not eligible (R16). -/
def foreigner (f : WedgeRead) (s : State) : State := if s.settings.headCount ≤ f.head then bump .foreignHead s else s

/-- Such a frame below W, as the clock leaves it. -/
def passed (arrival : Nat) (f : WedgeRead) (s : State) : State × ClockResult :=
  clockStage arrival f.head f.wedge f.index (foreigner f s)

theorem foreigner_same (f : WedgeRead) (s : State) : (foreigner f s).engine = s.engine ∧ (foreigner f s).plan = s.plan ∧
    (foreigner f s).steps = s.steps ∧ readCounter (foreigner f s) 19 = readCounter s 19 ∧
    ∀ arrival, rulingOn arrival f (foreigner f s) = rulingOn arrival f s := by
  unfold foreigner
  split
  · exact ⟨rfl, rfl, rfl, (Laws.readCounter_bump .foreignHead 19 s).trans (if_neg (by decide)), fun _ => rfl⟩
  · exact ⟨rfl, rfl, rfl, rfl, fun _ => rfl⟩

theorem passed_notices (arrival : Nat) (f : WedgeRead) (s : State) :
    (passed arrival f s).1.engine = (if rulingOn arrival f s = .slip then discarded s.engine else s.engine) ∧
      (passed arrival f s).1.plan = (if rulingOn arrival f s = .slip then returned s.steps s.plan else s.plan) ∧
      readCounter (passed arrival f s).1 19 =
        if rulingOn arrival f s = .slip then tallied s.engine (readCounter s 19) else readCounter s 19 := by
  obtain ⟨engine, plan, steps, counter, ruling⟩ := foreigner_same f s
  rw [passed, clockStage_engine, clockStage_plan, clockStage_restarts, ruling, engine, plan, steps, counter]
  exact ⟨rfl, rfl, rfl⟩

theorem passWedge_below (below : f.wedge < s.settings.wedges) (arrival : Nat) (bytes : Frame) :
    passWedge arrival f bytes s = offerLoop bytes (engineStage f.head (passed arrival f s).2.event false
      (planStage f.head (passed arrival f s).2.event none (passed arrival f s).1)) := if_neg (Nat.not_le.mpr below)

/-- The stages it passes over leave what the clock left, but the LOOP class. -/
theorem passWedge_away {arrival : Nat} {bytes : Frame} (below : f.wedge < s.settings.wedges)
    (away : Unattended (passed arrival f s).1 f.head) (idle : Idle (passed arrival f s).1 f.head)
    (stays : (passed arrival f s).2.event = true → (passed arrival f s).1.plan.sub = some .waiting →
      activationHolds (passed arrival f s).1 f.head = false) :
    passWedge arrival f bytes s = offerLoop bytes (passed arrival f s).1 := by
  rw [passWedge_below below, planStage_away away stays, engineStage_away away idle]

theorem clockStage_slip {arrival : Nat} (slip : rulingOn arrival f s = .slip) :
    (clockStage arrival f.head f.wedge f.index s).1.clock.state = .acquiring := by
  have running := running_of_slip slip
  rw [clockStage_clock, Rulings.ruleStage_running running]
  rw [rulingOn, if_pos running] at slip
  rw [slip]
  rfl

theorem activationHolds_iff {h : Nat} : activationHolds s h = true ↔
    stepHead s = some h ∧ s.activeHead = some h ∧ s.clock.state = .locked ∧ (headContext s h).targetValid = true ∧
      (headContext s h).seeking = false ∧ (headContext s h).settle = 0 ∧ (headContext s h).retargeted = false ∧
      h < s.settings.headCount ∧ (headRec s h).enabled = true := by
  simp only [activationHolds, Bool.and_eq_true, beq_iff_eq, Bool.not_eq_true', decide_eq_true_eq, and_assoc]

theorem activationHolds_unlocked {h : Nat} (state : s.clock.state ≠ .locked) : activationHolds s h = false := by
  rw [← Bool.not_eq_true, activationHolds_iff]
  exact fun e => state e.2.2.1

end Sys2Proof.Frames
end

section
/-! PROOFS. HOLD frames: the target, the FIFO, and what reaches learning and plan; the three notices that end a measurement
(R50, R52 to R57, R68, R85, R122). -/

namespace Sys2Proof.Targets

set_option Elab.async false

open Sys2Proof.Machine Sys2Proof.Safety Sys2Proof.Traffic Sys2Proof.Notices Sys2Proof.Departures Sys2Proof.Frames
  Sys2Proof.Misses

variable {s t : State}

/-! ### Reading a HOLD frame -/

theorem exec_hold {f : HoldFrame} (taken : linkCheck .bench f.bytes = none) (s : State) :
    exec (.hold f) s = .next (offerFifo f.bytes (readHoldFrame (readHold f) s)) := by
  show Host.Outcome.next (benchChecked f.bytes _ s) = _
  rw [benchChecked, taken]
  rfl

/-- The frame changes the target or the seek of a head below H (R55). -/
def moves (f : HoldRead) (s : State) : Bool := f.seek || targetDiffers (headContext s f.head) f

/-- A HOLD frame for a head below H: its notices. -/
theorem readHoldFrame_notices {f : HoldRead} (below : f.head < s.settings.headCount) :
    (readHoldFrame f s).engine = (if moves f s = true ∧ boundTo s f.head = true then discarded s.engine else s.engine) ∧
      (readHoldFrame f s).plan =
        (if moves f s = true ∧ stepHead s = some f.head then returned s.steps s.plan else s.plan) ∧
      readCounter (readHoldFrame f s) 19 =
        if moves f s = true ∧ boundTo s f.head = true then tallied s.engine (readCounter s 19) else readCounter s 19 := by
  have read : readHoldFrame f s = if moves f s then
      headNotice f.head (setHeadContext f.head (holdContext s.settings.switchSettle f (headContext s f.head)) s)
      else setHeadContext f.head (holdContext s.settings.switchSettle f (headContext s f.head)) s := if_pos below
  rw [read]
  by_cases moved : moves f s = true
  · rw [if_pos moved]
    simp only [headNotice_engine, headNotice_plan, readCounter_headNotice, moved, true_and]
    exact ⟨rfl, rfl, rfl⟩
  · rw [if_neg moved]
    simp only [Bool.eq_false_iff.mpr moved, Bool.false_eq_true, false_and, if_false]
    exact ⟨rfl, rfl, rfl⟩

theorem targetDiffers_iff {c : HeadContext} {f : HoldRead} : targetDiffers c f = true ↔
    c.targetValid = false ∨ c.targetTrack ≠ f.track ∨ c.targetOffset ≠ f.offset := by
  simp [targetDiffers, or_assoc]

/-- The context a HOLD frame leaves. -/
theorem holdContext_eq (settle : Nat) (f : HoldRead) (c : HeadContext) : holdContext settle f c = { c with
    targetValid := true
    targetTrack := f.track
    targetOffset := f.offset
    seeking := f.seek
    settle := if !f.seek && (c.seeking || targetDiffers c f) then settle else c.settle
    retargeted := if f.seek || targetDiffers c f then !f.seek && decide (0 < settle) else c.retargeted } := by
  unfold holdContext
  cases f.seek <;> simp

theorem readHold_offset (f : HoldFrame) : (readHold f).offset = max (-512) (min 511 f.offset.toInt) :=
  Ranges.clamp_eq _ _ _ (by decide)

/-- Settles O21: the context, the notices and the FIFO, each by its own operation. -/
theorem holdSetsTheTarget : Obligations.HoldSetsTheTarget := by
  intro s f h track offset seek c differs taken
  rw [exec_hold taken]
  refine ⟨fun below => ⟨_, rfl, ?_⟩, fun past => ?_⟩
  · have contexts : (offerFifo f.bytes (readHoldFrame (readHold f) s)).contexts =
        Table.set {} s.contexts h (holdContext s.settings.switchSettle (readHold f) c) := by
      rw [(Laws.offerFifo_frame f.bytes _).2.2.2.2.2.1, Contexts.readHoldFrame_contexts]
      exact if_pos below
    have link : (readHoldFrame (readHold f) s).link = s.link := (readHoldFrame_carried (readHold f) s).link
    have differ : targetDiffers c (readHold f) = differs := by
      rw [targetDiffers, readHold_offset]
      rfl
    obtain ⟨engine, plan, -⟩ := readHoldFrame_notices (f := readHold f) below
    rw [show (readHold f).head = h from rfl] at engine plan
    have still : moves (readHold f) s = (seek || differs) := congrArg (seek || ·) differ
    refine ⟨?_, fun k other => ?_, fun room => ?_, fun full => ?_, fun calm => ?_, ?_⟩
    · rw [headContext, contexts, Laws.get_set_same, holdContext_eq, readHold_offset, differ]
      rfl
    · rw [headContext, contexts, Laws.get_set, if_neg other]
      rfl
    · rw [Laws.offerFifo_room _ _ (by rw [link]; exact room), link]
    · rw [Laws.offerFifo_full _ _ (by rw [link]; exact full)]
      simp [setLatch]
    · have none : ∀ p : Prop, (p → boundTo s h = true ∨ stepHead s = some h) → ¬(moves (readHold f) s = true ∧ p) := by
        rintro p reached ⟨moved, hp⟩
        rcases calm with ⟨lands, same⟩ | ⟨unbound, away⟩
        · rw [still, lands, same] at moved
          cases moved
        · rcases reached hp with bound | head
          · rw [unbound] at bound
            cases bound
          · exact away head
      rw [if_neg (none _ .inl)] at engine
      rw [if_neg (none _ .inr)] at plan
      exact ⟨by simpa using engine, by simpa using plan⟩
    · have carried := readHoldFrame_carried (readHold f) s
      have mask : (offerFifo f.bytes (readHoldFrame (readHold f) s)).alerts.mask = s.alerts.mask := by
        rw [← carried.mask]
        unfold offerFifo
        split <;> rfl
      simp [mask]
  · have passed : readHoldFrame (readHold f) s = s := if_neg (Nat.not_lt.mpr past)
    rw [passed]
    refine ⟨fun room => ?_, fun full => ?_⟩
    · rw [Laws.offerFifo_room _ _ room]
    · rw [Laws.offerFifo_full _ _ full]
      rfl

/-! ### The notices that end a measurement (R50, R55, R68, R122) -/

/-- A notice that reaches the current step's head. -/
theorem measurementDiscarded {n : Nat} (current : s.plan.current = some n) (active : s.plan.sub = some .active)
    (plan : t.plan = returned s.steps s.plan)
    (engine : (boundTo s (planStep s n).head = true → t.engine = discarded s.engine) ∧
      (t.engine = discarded s.engine ∨ t.engine = s.engine))
    (counter : (boundTo s (planStep s n).head = true → readCounter t 19 = tallied s.engine (readCounter s 19)) ∧
      (readCounter t 19 = tallied s.engine (readCounter s 19) ∨ readCounter t 19 = readCounter s 19)) :
    MeasurementDiscarded s t n := by
  refine ⟨plan.trans (returned_active current active), fun bound accumulate => ⟨?_, ?_⟩, fun other => ⟨?_, ?_⟩⟩
  · exact (engine.1 bound).trans (discarded_accumulate accumulate)
  · exact (counter.1 bound).trans (if_pos accumulate)
  · rcases engine.2 with e | e
    · exact e.trans (discarded_other other)
    · exact e
  · rcases counter.2 with e | e
    · exact e.trans (if_neg other)
    · exact e

theorem hold_discards (f : HoldFrame) {n : Nat} (below : f.head.toNat < s.settings.headCount)
    (moved : moves (readHold f) s = true) (current : s.plan.current = some n) (active : s.plan.sub = some .active)
    (head : (planStep s n).head = f.head.toNat) :
    MeasurementDiscarded s (offerFifo f.bytes (readHoldFrame (readHold f) s)) n := by
  obtain ⟨engine, plan, counter⟩ := readHoldFrame_notices (f := readHold f) below
  have offered : readCounter (offerFifo f.bytes (readHoldFrame (readHold f) s)) 19 = readCounter (readHoldFrame (readHold f) s) 19 := by
    unfold offerFifo
    split
    · rfl
    · exact (Laws.readCounter_bump .frontTransmitDrop 19 _).trans (if_neg (by decide))
  have stepped : stepHead s = some (readHold f).head := by rw [stepHead, current]; exact congrArg some head
  rw [if_pos ⟨moved, stepped⟩] at plan
  refine measurementDiscarded current active (by simpa using plan) ⟨fun bound => ?_, ?_⟩ ⟨fun bound => ?_, ?_⟩
  · rw [head] at bound
    rw [if_pos ⟨moved, bound⟩] at engine
    simpa using engine
  · rw [(Laws.offerFifo_frame f.bytes _).2.2.2.2.2.2.2.2.2.1, engine]
    split
    · exact .inl rfl
    · exact .inr rfl
  · rw [head] at bound
    rw [if_pos ⟨moved, bound⟩] at counter
    exact offered.trans counter
  · rw [offered, counter]
    split
    · exact .inl rfl
    · exact .inr rfl

/-- A switch away from the ACTIVE step's head. -/
theorem switch_discards {arrival n g : Nat} {f : WedgeRead} (bytes : Frame) (away : s.activeHead = some g) (other : g ≠ f.head)
    (current : s.plan.current = some n) (active : s.plan.sub = some .active) (head : (planStep s n).head = g)
    (bound : s.engine.pass ≠ .unbound → boundTo s g = true) :
    MeasurementDiscarded s (handleWedge arrival f bytes s) n := by
  have stepped : stepHead s = some g := by rw [stepHead, current, ← head]; rfl
  have plan : (ruled arrival f s).1.plan = returned s.steps s.plan := by
    rw [ruled_plan, planFound_eq, if_pos (.inr (by rw [leaves_away away other, stepped, beq_self_eq_true]))]
  have engine := ruled_engine arrival f s
  rw [engineFound_eq] at engine
  have restarts := ruled_restarts arrival f s
  have waits : (ruled arrival f s).1.plan.sub = some .waiting := by rw [plan, returned_active current active]
  have kept : stepHead (ruled arrival f s).1 = some g := by
    rw [← stepped]
    exact stepHead_congr (by rw [plan]; exact (returned_fields s.steps s.plan).2.1) (by simp [ruled, contextFound])
  have noticed := Samples.ruled_noticed arrival f s
  have elsewhere : s.engine.pass ≠ .unbound → boundTo (ruled arrival f s).1 f.head = false := fun some => by
    rw [boundTo_congr noticed.binding, ← Bool.not_eq_true]
    exact fun e => other (Samples.boundTo_unique (bound some) e)
  obtain ⟨engine', plan', counter'⟩ := handleWedge_away (arrival := arrival) (bytes := bytes) (f := f) (s := s)
    (fun _ solve => elsewhere (by rw [noticed.solve.mp solve]; decide))
    (fun e => by rw [waits] at e; cases e)
    (fun accumulate => elsewhere (by
      rcases noticed with e | e
      · rw [← e, accumulate]; decide
      · rw [e] at accumulate; exact absurd accumulate (discarded_pass _)))
    (fun _ _ => by
      rw [← Bool.not_eq_true, activationHolds_iff, kept]
      exact fun e => other (Option.some.inj e.1))
  rw [leaves_away away other] at engine restarts
  refine measurementDiscarded current active (plan'.trans plan) ⟨fun bound => ?_, ?_⟩ ⟨fun bound => ?_, ?_⟩
  · rw [engine', engine, if_pos (.inr (head ▸ bound))]
  · rw [engine', engine]
    split
    · exact .inl rfl
    · exact .inr rfl
  · rw [counter', restarts, if_pos (.inr (head ▸ bound))]
  · rw [counter', restarts]
    split
    · exact .inl rfl
    · exact .inr rfl

/-- A slip at an eligible frame. -/
theorem slip_discards {arrival n : Nat} {f : WedgeRead} (bytes : Frame) (slip : rulingOn arrival f s = .slip)
    (current : s.plan.current = some n) (active : s.plan.sub = some .active) (solving : s.engine.pass = .solve → f.index = false) :
    MeasurementDiscarded s (handleWedge arrival f bytes s) n := by
  have plan : (ruled arrival f s).1.plan = returned s.steps s.plan := by rw [ruled_plan, planFound_eq, if_pos (.inl slip)]
  have engine : (ruled arrival f s).1.engine = discarded s.engine := by rw [ruled_engine, engineFound_eq, if_pos (.inl slip)]
  have restarts := ruled_restarts arrival f s
  rw [if_pos (.inl slip)] at restarts
  have acquiring := clockStage_slip ((rulingOn_contextFound arrival f s).trans slip)
  obtain ⟨engine', plan', counter'⟩ := handleWedge_away (arrival := arrival) (bytes := bytes) (f := f) (s := s)
    (fun index solve => by
      rw [engine, discarded_solve] at solve
      rw [solving solve] at index
      cases index)
    (fun e => by rw [plan, returned_active current active] at e; cases e)
    (fun accumulate => by rw [engine] at accumulate; exact absurd accumulate (discarded_pass _))
    (fun _ _ => activationHolds_unlocked (by rw [ruled, acquiring]; decide))
  exact measurementDiscarded current active (plan'.trans plan) ⟨fun _ => engine'.trans engine, .inl (engine'.trans engine)⟩
    ⟨fun _ => counter'.trans restarts, .inl (counter'.trans restarts)⟩

/-- A slip at any other frame below W. -/
theorem slip_discards_passed {arrival n : Nat} {f : WedgeRead} (bytes : Frame) (below : f.wedge < s.settings.wedges)
    (slip : rulingOn arrival f s = .slip) (current : s.plan.current = some n) (active : s.plan.sub = some .active) :
    MeasurementDiscarded s (passWedge arrival f bytes s) n := by
  obtain ⟨engine, plan, restarts⟩ := passed_notices arrival f s
  rw [if_pos slip] at engine plan restarts
  have acquiring : (passed arrival f s).1.clock.state = .acquiring :=
    clockStage_slip (((foreigner_same f s).2.2.2.2 arrival).trans slip)
  have left := passWedge_away (arrival := arrival) (bytes := bytes) below
    (fun e => by rw [plan, returned_active current active] at e; cases e)
    (fun accumulate => by rw [engine] at accumulate; exact absurd accumulate (discarded_pass _))
    (fun _ _ => activationHolds_unlocked (by rw [acquiring]; decide))
  have looped := (offerLoop_carried bytes (passed arrival f s).1).counter_eq (c := .passRestarts) (by decide)
  rw [left]
  exact measurementDiscarded current active (by simpa using plan) ⟨fun _ => by simpa using engine, .inl (by simpa using engine)⟩
    ⟨fun _ => looped.trans restarts, .inl (looped.trans restarts)⟩

/-- Settles O22: a HOLD, a switch away, a slip. -/
theorem noticesDiscardTheMeasurement : Obligations.NoticesDiscardTheMeasurement := by
  refine ⟨?_, ?_, ?_⟩
  · intro s f n h c taken below moved current active head
    refine ⟨_, exec_hold taken s, hold_discards f below ?_ current active head⟩
    rw [moves, Bool.or_eq_true, targetDiffers_iff, readHold_offset]
    exact moved
  · intro s arrival n g f r arrives eligible away other current active head bound
    refine ⟨_, exec_arrived arrives, ?_⟩
    rw [if_pos eligible]
    exact switch_discards f.bytes away other current active head bound
  · intro s arrival n f r arrives below slip current active solving bound
    refine ⟨_, exec_arrived arrives, ?_⟩
    split
    · exact slip_discards f.bytes slip current active solving
    · exact slip_discards_passed f.bytes below slip current active

end Sys2Proof.Targets
end

section
/-! PROOFS. A WEDGE frame that is not eligible (R16, R59, R72). -/

namespace Sys2Proof.Foreigners

set_option Elab.async false

open Sys2Proof.Machine Sys2Proof.Safety Sys2Proof.Traffic Sys2Proof.Notices Sys2Proof.Frames Sys2Proof.Misses
  Sys2Proof.DefectTable Sys2Proof.PlanLaw

variable {s u : State} {arrival : Nat} {f : WedgeRead}

/-- A head that is not eligible has no ACTIVE step, no pass, and becomes ACTIVE at nothing. -/
theorem ineligible_away {h w : Nat} (held : PlanHeld u) (ineligible : eligible u h w = false) (below : w < u.settings.wedges) :
    Unattended u h ∧ Idle u h ∧ activationHolds u h = false := by
  obtain ⟨core, attended⟩ := planHeld_iff.mp held
  have out : h < u.settings.headCount → (headRec u h).enabled = true → False := fun small enabled => by
    rw [eligible_iff.mpr ⟨small, enabled, below⟩] at ineligible
    cases ineligible
  have away : Unattended u h := fun active head => by
    obtain ⟨n, current, same⟩ := Option.map_eq_some_iff.mp head
    have measuring := attended n current active
    rw [same] at measuring
    exact out measuring.headCount measuring.enabled
  refine ⟨away, fun accumulate => ?_, ?_⟩
  · rw [← Bool.not_eq_true]
    exact fun bound => away (core.bound.accumulating accumulate) (core.stepHead_of_bound bound)
  · rw [← Bool.not_eq_true, activationHolds_iff]
    exact fun ⟨_, _, _, _, _, _, _, small, enabled⟩ => out small enabled

theorem passed_same (arrival : Nat) (f : WedgeRead) (s : State) :
    (passed arrival f s).1.settings = s.settings ∧ (passed arrival f s).1.headRecs = s.headRecs := by
  unfold passed foreigner
  split <;> simp

theorem planHeld_foreigner (held : PlanHeld s) (f : WedgeRead) : PlanHeld (foreigner f s) := by
  unfold foreigner
  split
  · exact planHeld_congr held rfl rfl rfl fun k m => measuring_congr m rfl rfl rfl rfl rfl
  · exact held

/-- Below W, in a part whose plan and learning stand in step, such a frame goes through the clock alone. -/
theorem passWedge_held (held : PlanHeld s) (ineligible : eligible s f.head f.wedge = false) (below : f.wedge < s.settings.wedges)
    (bytes : Frame) : passWedge arrival f bytes s = offerLoop bytes (passed arrival f s).1 := by
  obtain ⟨settings, headRecs⟩ := passed_same arrival f s
  have same : eligible (passed arrival f s).1 f.head f.wedge = eligible s f.head f.wedge := by
    simp only [eligible, headRec, settings, headRecs]
  have held' : PlanHeld (passed arrival f s).1 := planHeld_clockStage (planHeld_foreigner held f) arrival f
  obtain ⟨away, idle, stays⟩ := ineligible_away held' (same.trans ineligible) (by rw [settings]; exact below)
  exact passWedge_away below away idle fun _ _ => stays

/-! ### What is counted, and the LOOP class -/

theorem readCounter_foreigner (f : WedgeRead) (s : State) : readCounter (foreigner f s) 7 =
    if s.settings.headCount ≤ f.head then saturated (readCounter s 7) 1 else readCounter s 7 := by
  unfold foreigner
  split
  · exact Laws.readCounter_bump .foreignHead 7 s
  · rfl

theorem readCounter_foreigner_other (f : WedgeRead) (s : State) {k : Nat} (other : k ≠ 7) :
    readCounter (foreigner f s) k = readCounter s k := by
  unfold foreigner
  split
  · exact (Laws.readCounter_bump .foreignHead k s).trans (if_neg other)
  · rfl

theorem foreigner_out (f : WedgeRead) (s : State) : (foreigner f s).out = s.out := by
  unfold foreigner
  split <;> rfl

/-- What a frame below W goes through before the LOOP class. -/
def passes : Footprint :=
  { counters := [.windowMiss, .slips, .acquireFails, .passRestarts, .reportDrop, .budgetDrop, .stepsFailed]
    alerts := [.clockLocked, .reportOverflow, .stepDone, .stepFailed, .planEnd]
    report := true
    budget := true
    timer := true }

/-- The frame enters the LOOP class behind what its cause and the clock leave. -/
theorem passWedge_offers (arrival : Nat) (f : WedgeRead) (bytes : Frame) (s : State) :
    ∃ u, passWedge arrival f bytes s = offerLoop bytes u ∧
      ((s.settings.wedges ≤ f.wedge ∧ u = bump .wedgeRange (foreigner f s)) ∨
        (f.wedge < s.settings.wedges ∧ Carried passes (foreigner f s) u)) := by
  rcases Nat.lt_or_ge f.wedge s.settings.wedges with below | past
  · refine ⟨_, passWedge_below below arrival bytes, .inr ⟨below, ?_⟩⟩
    exact (((clockStage_carried arrival f.head f.wedge f.index (foreigner f s)).mono (by decide)).andThen
      (planStage_carried _ _ _ _)).trans (engineStage_carried _ _ _ _)
  · exact ⟨_, if_pos past, .inl ⟨past, rfl⟩⟩

/-- The counters and the LOOP class as the frame's cause and the clock leave them. -/
structure Reaches (f : WedgeRead) (s u : State) : Prop where
  foreign : readCounter u 7 = if s.settings.headCount ≤ f.head then saturated (readCounter s 7) 1 else readCounter s 7
  range : readCounter u 8 = if s.settings.wedges ≤ f.wedge then saturated (readCounter s 8) 1 else readCounter s 8
  drops : readCounter u 13 = readCounter s 13
  out : s.out.sending.isSome = true → u.out.sending.isSome = true ∧ u.out.loop = s.out.loop

theorem reaches_past (past : s.settings.wedges ≤ f.wedge) : Reaches f s (bump .wedgeRange (foreigner f s)) := by
  have counted := fun k => Laws.readCounter_bump .wedgeRange k (foreigner f s)
  refine ⟨?_, ?_, ?_, fun busy => ?_⟩
  · exact ((counted 7).trans (if_neg (by decide))).trans (readCounter_foreigner f s)
  · rw [if_pos past]
    refine ((counted 8).trans (if_pos (by rfl))).trans (congrArg (saturated · 1) ?_)
    exact readCounter_foreigner_other f s (by decide)
  · exact ((counted 13).trans (if_neg (by decide))).trans (readCounter_foreigner_other f s (by decide))
  · show (foreigner f s).out.sending.isSome = true ∧ (foreigner f s).out.loop = s.out.loop
    rw [foreigner_out]
    exact ⟨busy, rfl⟩

theorem reaches_below (below : f.wedge < s.settings.wedges) (passed : Carried passes (foreigner f s) u) : Reaches f s u := by
  refine ⟨?_, ?_, ?_, fun busy => ?_⟩
  · exact (passed.counter_eq (c := .foreignHead) (by decide)).trans (readCounter_foreigner f s)
  · rw [if_neg (by omega)]
    exact (passed.counter_eq (c := .wedgeRange) (by decide)).trans (readCounter_foreigner_other f s (by decide))
  · exact (passed.counter_eq (c := .loopDrop) (by decide)).trans (readCounter_foreigner_other f s (by decide))
  · obtain ⟨g, sending⟩ := Option.isSome_iff_exists.mp busy
    have sending' : (foreigner f s).out.sending = some g := by rw [foreigner_out]; exact sending
    have loop := passed.loop_eq rfl sending'
    rw [foreigner_out] at loop
    exact ⟨by rw [passed.sending sending']; rfl, loop⟩

/-- Past W the frame reaches no block. -/
theorem passWedge_past (past : s.settings.wedges ≤ f.wedge) (arrival : Nat) (bytes : Frame) :
    passWedge arrival f bytes s = { s with
      out := (passWedge arrival f bytes s).out
      alerts := { s.alerts with counters := (passWedge arrival f bytes s).alerts.counters } } := by
  have passed : passWedge arrival f bytes s = offerLoop bytes (bump .wedgeRange (foreigner f s)) := if_pos past
  rw [passed]
  unfold foreigner offerLoop
  dsimp only
  split <;> split <;> rfl

theorem passWedge_defects (plain : f.index = false ∨ (s.clock.state ≠ .locked ∧ s.clock.state ≠ .coasting)) (arrival : Nat)
    (bytes : Frame) : (passWedge arrival f bytes s).defects = s.defects := by
  have defects : (foreigner f s).defects = s.defects := by unfold foreigner; split <;> rfl
  have clock : (foreigner f s).clock = s.clock := by unfold foreigner; split <;> rfl
  have quiet : (passed arrival f s).2.event = false := by
    rw [passed, clockStage_result, clock]
    rcases plain with index | ⟨locked, coasting⟩
    · rw [index, Bool.and_false]
    · rw [Bool.and_eq_false_iff]
      exact .inl (Bool.eq_false_iff.mpr fun running => (Departures.running_iff.mp running).elim locked coasting)
  rcases Nat.lt_or_ge f.wedge s.settings.wedges with below | past
  · have aged := clockStage_defects arrival f.head f.wedge f.index (foreigner f s)
    rw [show (clockStage arrival f.head f.wedge f.index (foreigner f s)).2.event = false from quiet, defects] at aged
    rw [passWedge_below below]
    simpa [passed] using aged
  · rw [passWedge_past past]

/-- Settles O19: past W nothing but the counters and the LOOP class, below it the clock as well. -/
theorem ineligibleWedgeIsOnlyForwarded : Obligations.IneligibleWedgeIsOnlyForwarded := by
  intro s arrival f r foreign arrives ineligible
  refine ⟨passWedge arrival r f.bytes s, by rw [exec_arrived arrives]; exact congrArg _ (if_neg (by simpa using ineligible)), ?_⟩
  obtain ⟨u, offers, route⟩ := passWedge_offers arrival r f.bytes s
  have reaches : Reaches r s u := by
    rcases route with ⟨past, rfl⟩ | ⟨below, passed⟩
    · exact reaches_past past
    · exact reaches_below below passed
  have looped := offerLoop_carried f.bytes u
  rw [← offers] at looped
  refine ⟨(looped.counter_eq (c := .foreignHead) (by decide)).trans reaches.foreign, fun busy => ?_, by simp, by simp, by simp,
    by simp, by simp, by simp, by simp, fun past => ⟨?_, passWedge_past past arrival f.bytes⟩, fun below => ?_,
    fun plain => passWedge_defects plain arrival f.bytes, fun held => ?_⟩
  · obtain ⟨busy', loop⟩ := reaches.out busy
    rw [offers, offerLoop_busy f.bytes busy', readCounter_offerLoop_drop, loop, reaches.drops]
    exact ⟨rfl, rfl⟩
  · exact (looped.counter_eq (c := .wedgeRange) (by decide)).trans (reaches.range.trans (if_pos past))
  · exact (looped.counter_eq (c := .wedgeRange) (by decide)).trans (reaches.range.trans (if_neg (by omega)))
  · rcases Nat.lt_or_ge r.wedge s.settings.wedges with below | past
    · obtain ⟨engine, plan, -⟩ := passed_notices arrival r s
      rw [passWedge_held held ineligible below]
      refine ⟨by simpa using (passed_same arrival r s).2, fun steady => ?_⟩
      rw [if_neg steady] at engine plan
      exact ⟨by simpa using engine, by simpa using plan⟩
    · rw [passWedge_past past]
      exact ⟨rfl, fun _ => ⟨rfl, rfl⟩⟩

end Sys2Proof.Foreigners
end

section
/-! PROOFS. An eligible WEDGE frame up to stage 6: what it is computed against, and how it is classed (R21 to R30, R33, R35, R48 to R51,
R80). -/

namespace Sys2Proof.Classes

set_option Elab.async false

open Sys2Proof.Machine Sys2Proof.Safety Sys2Proof.Traffic Sys2Proof.Notices Sys2Proof.Frames Sys2Proof.Contexts
  Sys2Proof.DefectTable Sys2Proof.Offsets Sys2Proof.PlanSteps

variable {s t u : State} {arrival : Nat} {f : WedgeRead}

/-! ### The head's context (R48 to R51) -/

theorem headContext_contextFound (f : WedgeRead) (s : State) (k : Nat) : headContext (contextFound f s) k =
    if k = f.head then { headContext s f.head with settle := settleFound s f.head - 1 } else headContext s k := by
  have found : headContext (headSwitch f.head s) f.head = { headContext s f.head with settle := settleFound s f.head } := by
    rw [headContext, headSwitch_contexts, settleFound]
    split
    · rfl
    · rw [Laws.get_set_same]
  have others : k ≠ f.head → headContext (headSwitch f.head s) k = headContext s k := fun other => by
    rw [headContext, headSwitch_contexts]
    split
    · rfl
    · rw [Laws.get_set, if_neg other]
      rfl
  unfold contextFound contextStage countSettle
  rw [Laws.headContext_setHeadContext]
  split
  · rw [found]
  · next other => exact others other

theorem contextFound_props (f : WedgeRead) (s : State) : (contextStage f.head s).2 =
    { settling := decide (0 < settleFound s f.head)
      seeking := (headContext s f.head).seeking
      noTarget := !(headContext s f.head).targetValid } := by
  have found : headContext (headSwitch f.head s) f.head = { headContext s f.head with settle := settleFound s f.head } := by
    rw [headContext, headSwitch_contexts, settleFound]
    split
    · rfl
    · rw [Laws.get_set_same]
  simp only [contextStage, frameProps, found]

/-! ### Defect lookups (R94, R99) -/

theorem knownDefect_iff (held : TableHeld s.defects) {h w : Nat} : knownDefect s h w = true ↔
    ∃ c ∈ s.defects, c.2.head = h ∧ c.2.wedge = w ∧ c.2.state ≠ .suspect := by
  unfold knownDefect
  rcases found : findDefect s.defects h w with _ | ⟨k, e⟩
  · have none := findDefect_none.mp found
    exact ⟨nofun, fun ⟨c, mem, head, wedge, _⟩ => absurd ⟨head, wedge⟩ (none c mem)⟩
  · obtain ⟨mem, head, wedge⟩ := findDefect_some found
    simp only [bne_iff_ne]
    refine ⟨fun state => ⟨(k, e), mem, head, wedge, state⟩, fun ⟨c, memc, headc, wedgec, state⟩ => ?_⟩
    have symm : Std.Symm fun c d : Nat × DefectEntry => ¬(c.2.head = d.2.head ∧ c.2.wedge = d.2.wedge) :=
      ⟨fun _ _ other same => other ⟨same.1.symm, same.2.symm⟩⟩
    have same : c = (k, e) := by
      by_contra other
      exact held.unique.forall memc mem other ⟨headc.trans head.symm, wedgec.trans wedge.symm⟩
    rw [same] at state
    exact state

/-- Aging touches SUSPECT entries and marks alone (R99). -/
theorem knownDefect_aged (held : TableHeld s.defects) (g limit : Nat) (aged : t.defects = agedTable g limit s.defects) (h w : Nat) :
    knownDefect t h w = knownDefect s h w := by
  have state : ∀ e : DefectEntry, e.state ≠ .suspect → agesOut limit e = false ∧ agedEntry e = { e with mark := false } :=
    fun e known => ⟨by simp [agesOut, known], by simp [agedEntry, known]⟩
  have kept : ∀ e : DefectEntry, (agedEntry e).state = e.state := fun e => by unfold agedEntry; split <;> rfl
  have held' : TableHeld t.defects := by rw [aged]; exact tableHeld_aged held limit
  rw [Bool.eq_iff_iff, knownDefect_iff held, knownDefect_iff held', aged]
  constructor
  · rintro ⟨c, mem, head, wedge, known⟩
    obtain ⟨d, memd, step⟩ := List.mem_filterMap.mp mem
    split_ifs at step <;> cases step
    · obtain ⟨sameHead, sameWedge⟩ := agedEntry_pair d.2
      exact ⟨d, memd, sameHead ▸ head, sameWedge ▸ wedge, kept d.2 ▸ known⟩
    · exact ⟨_, memd, head, wedge, known⟩
  · rintro ⟨c, mem, head, wedge, known⟩
    obtain ⟨stays, entry⟩ := state c.2 known
    by_cases own : c.2.head = g
    · refine ⟨(c.1, agedEntry c.2), List.mem_filterMap.mpr ⟨c, mem, ?_⟩, ?_, ?_, ?_⟩
      · rw [if_pos own, stays]
        rfl
      · rw [(agedEntry_pair c.2).1, head]
      · rw [(agedEntry_pair c.2).2, wedge]
      · rw [kept]
        exact known
    · exact ⟨c, List.mem_filterMap.mpr ⟨c, mem, if_neg own⟩, head, wedge, known⟩

/-! ### Records of heads: what a fold or a result leaves (R45 to R47) -/

/-- All but the three fields an offset write reaches. -/
def SameControls (r r' : HeadRec) : Prop :=
  r' = { r with ownOffset := r'.ownOffset, offsetDiff := r'.offsetDiff, offsetValid := r'.offsetValid }

/-- Records change at one head at most, and there in its offsets alone. -/
def OffsetsAt (h : Nat) (s t : State) : Prop :=
  SameControls (headRec s h) (headRec t h) ∧ ∀ k, k ≠ h → headRec t k = headRec s k

theorem OffsetsAt.refl {h : Nat} (same : t.headRecs = s.headRecs) : OffsetsAt h s t := by
  have equal : ∀ k, headRec t k = headRec s k := fun k => by rw [headRec, headRec, same]
  exact ⟨by rw [equal]; rfl, fun k _ => equal k⟩

theorem OffsetsAt.trans {h : Nat} (h₁ : OffsetsAt h s t) (h₂ : OffsetsAt h t u) : OffsetsAt h s u := by
  obtain ⟨c₁, o₁⟩ := h₁
  obtain ⟨c₂, o₂⟩ := h₂
  refine ⟨?_, fun k other => (o₂ k other).trans (o₁ k other)⟩
  unfold SameControls at *
  rw [c₂, c₁]

theorem offsetsAt_set {h : Nat} {r : HeadRec} (controls : SameControls (headRec s h) r) (recs : t.headRecs = Table.set {} s.headRecs h r) :
    OffsetsAt h s t := by
  refine ⟨?_, fun k other => ?_⟩
  · rw [show headRec t h = r by rw [headRec, recs, Laws.get_set_same]]
    exact controls
  · rw [headRec, recs, Laws.get_set, if_neg other]
    rfl

theorem sameControls_folded (s : State) (h : Nat) (d : Int) : SameControls (headRec s h) (foldedRec s h d) := by
  unfold SameControls foldedRec
  split <;> rfl

theorem sameControls_measured (s : State) (h : Nat) (v : Int) : SameControls (headRec s h) (measuredRec s h v) := by
  unfold SameControls measuredRec
  split <;> rfl

theorem OffsetsAt.controls {h : Nat} (o : OffsetsAt h s t) : (headRec t h).mode = (headRec s h).mode ∧
    (headRec t h).burstFloor = (headRec s h).burstFloor ∧ (headRec t h).compEnable = (headRec s h).compEnable ∧
    (headRec t h).learnEnable = (headRec s h).learnEnable ∧ (headRec t h).defectLearn = (headRec s h).defectLearn := by
  rw [o.1]
  exact ⟨rfl, rfl, rfl, rfl, rfl⟩

theorem closeStage_offsets (h : Nat) (event : Bool) (after : Option AfterApply) (s : State) :
    OffsetsAt h s (closeStage h event after s) := by
  rcases closeStage_cases h event after s with ⟨n, o, -, -, e⟩ | closed
  · rw [e]
    exact .refl (by simp)
  · generalize closeStage h event after s = t at closed ⊢
    cases closed with
    | same => exact .refl rfl
    | counted n r => exact .refl rfl
    | ended n r o => exact .refl (by simp)
    | written n r v =>
      refine offsetsAt_set (r := measuredRec s h v) (sameControls_measured s h v) ?_
      simp only [writeMeasuredOffset_eq, Laws.endStep_frame]
      exact congrArg (Table.set {} s.headRecs h) (measuredRec_congr rfl h v)

theorem planStage_offsets (h : Nat) (event : Bool) (after : Option AfterApply) (s : State) :
    OffsetsAt h s (planStage h event after s) := by
  rw [planStage_eq]
  split
  · exact (closeStage_offsets h event after s).trans (.refl (by simp))
  · exact closeStage_offsets h event after s

/-! ### What the frame is computed against (R30, R47, R80, R89) -/

/-- The solve that an index frame of the bound head applies. -/
theorem applySolve_computed {b : Binding} {p : PassParams} {v : PendingSolve} (hb : s.engine.binding = some b)
    (hp : s.engine.params = some p) (hv : s.engine.pendingSolve = some v) :
    (applySolve s).1.runout = Table.setAll 0 s.runout (b.head * 512) v.entries ∧
      (applySolve s).1.headRecs =
        (if p.fold = true then foldOffset b.head v.meanFold (writeEntries b.head v.entries s)
          else writeEntries b.head v.entries s).headRecs := by
  obtain ⟨runout, -⟩ := Laws.applySolve_runout s b p v hb hp hv
  refine ⟨runout, (PlanLaw.applySolve_leaves hb hp hv).2.2.trans ?_⟩
  rw [foldOffset_eq, foldedRec_congr (s := s) (t := writeEntries b.head v.entries s) rfl]
  split <;> rfl

/-- What the frame is computed against differs from the part in entries and offsets alone. -/
theorem computedAgainst_same (s : State) (f : WedgeRead) : (computedAgainst s f).linTab = s.linTab ∧
    (computedAgainst s f).contexts = s.contexts ∧ OffsetsAt f.head s (computedAgainst s f) := by
  unfold computedAgainst
  split
  · next p v _ _ =>
    dsimp only
    rw [foldOffset_eq]
    split_ifs
    · exact ⟨rfl, rfl, offsetsAt_set (sameControls_folded (writeEntries f.head v.entries s) f.head v.meanFold) rfl⟩
    · exact ⟨rfl, rfl, .refl rfl⟩
    · exact ⟨rfl, rfl, .refl rfl⟩
  · exact ⟨rfl, rfl, .refl rfl⟩

/-- Stages 1 and 2 leave what stage 3 reads of the engine. -/
theorem ruled_engine_fields (arrival : Nat) (f : WedgeRead) (s : State) :
    (ruled arrival f s).1.engine.binding = s.engine.binding ∧ (ruled arrival f s).1.engine.params = s.engine.params ∧
      (ruled arrival f s).1.engine.pendingSolve = s.engine.pendingSolve ∧
      (ruled arrival f s).1.engine.passNumber = s.engine.passNumber ∧
      ((ruled arrival f s).1.engine.pass = .solve ↔ s.engine.pass = .solve) := by
  rcases Samples.ruled_noticed arrival f s with e | e <;> rw [e]
  · exact ⟨rfl, rfl, rfl, rfl, Iff.rfl⟩
  · obtain ⟨binding, params, number, pending⟩ := discarded_fields s.engine
    exact ⟨binding, params, pending, number, discarded_solve s.engine⟩

@[simp] theorem ruled_same (arrival : Nat) (f : WedgeRead) (s : State) :
    (ruled arrival f s).1.runout = s.runout ∧ (ruled arrival f s).1.headRecs = s.headRecs ∧
      (ruled arrival f s).1.linTab = s.linTab ∧ (ruled arrival f s).1.steps = s.steps ∧
      (ruled arrival f s).1.settings = s.settings ∧ (ruled arrival f s).1.contexts = (contextFound f s).contexts ∧
      (ruled arrival f s).1.activeHead = some f.head := by
  refine ⟨?_, ?_, ?_, ?_, ?_, ?_, ?_⟩ <;> simp [ruled, contextFound, contextStage_activeHead]

/-- Stage 3 leaves entries and offsets that `computedAgainst` names. -/
theorem applied_computed (arrival : Nat) (f : WedgeRead) (s : State) :
    (applied arrival f s).1.runout = (computedAgainst s f).runout ∧
      (applied arrival f s).1.headRecs = (computedAgainst s f).headRecs := by
  obtain ⟨binding, params, pending, -, solve⟩ := ruled_engine_fields arrival f s
  have recs := (ruled_same arrival f s).2.1
  have runout := (ruled_same arrival f s).1
  have bound := boundTo_congr binding f.head
  by_cases applies : f.index = true ∧ s.engine.pass = .solve ∧ boundTo s f.head = true
  · obtain ⟨index, pass, own⟩ := applies
    obtain ⟨b, hb, head⟩ := Samples.boundTo_iff.mp own
    have taken : applied arrival f s = applySolve (ruled arrival f s).1 :=
      if_pos (by simp [index, bound, own, solve.mpr pass])
    rw [taken]
    rcases hp : s.engine.params with _ | p
    · rw [computedAgainst, hp]
      simp [applySolve, params, hp]
    rcases hv : s.engine.pendingSolve with _ | v
    · rw [computedAgainst, hp, hv]
      simp [applySolve, pending, hv]
    obtain ⟨entries, offsets⟩ := applySolve_computed (binding.trans hb) (params.trans hp) (pending.trans hv)
    rw [entries, offsets, computedAgainst, hp, hv]
    dsimp only
    rw [if_pos ⟨index, pass, own⟩, head, runout]
    refine ⟨?_, ?_⟩
    · split <;> simp [foldOffset_eq, writeEntries, Config.wedgeCells]
    · have folded := foldedRec_congr (s := writeEntries f.head v.entries s)
        (t := writeEntries f.head v.entries (ruled arrival f s).1) recs f.head v.meanFold
      rw [foldOffset_eq, foldOffset_eq, folded]
      split
      · exact congrArg (Table.set {} · f.head _) recs
      · exact recs
  · have none : applied arrival f s = ((ruled arrival f s).1, none) := by
      refine if_neg fun e => applies ?_
      simp only [Bool.and_eq_true, beq_iff_eq, bound] at e
      exact ⟨e.1.1, solve.mp e.2, e.1.2⟩
    have plain : computedAgainst s f = s := by
      unfold computedAgainst
      split
      · exact if_neg applies
      · rfl
    rw [none, plain]
    exact ⟨runout, recs⟩

/-! ### The state that stage 6 finds -/

theorem learned_same (arrival : Nat) (f : WedgeRead) (s : State) :
    (learned arrival f s).runout = (computedAgainst s f).runout ∧ (learned arrival f s).linTab = s.linTab ∧
      (learned arrival f s).settings = s.settings ∧ (learned arrival f s).steps = s.steps ∧
      (learned arrival f s).activeHead = some f.head ∧ (learned arrival f s).contexts = (contextFound f s).contexts ∧
      OffsetsAt f.head s (learned arrival f s) := by
  have runout := (applied_computed arrival f s).1
  have offsets : OffsetsAt f.head s (applied arrival f s).1 := by
    obtain ⟨controls, others⟩ := (computedAgainst_same s f).2.2
    have same : ∀ k, headRec (applied arrival f s).1 k = headRec (computedAgainst s f) k := fun k => by
      rw [headRec, headRec, (applied_computed arrival f s).2]
    exact ⟨by rw [same]; exact controls, fun k other => (same k).trans (others k other)⟩
  have planned : OffsetsAt f.head s (planned arrival f s) := offsets.trans (planStage_offsets _ _ _ _)
  refine ⟨?_, ?_, ?_, ?_, ?_, ?_, planned.trans (.refl (by simp [learned]))⟩
  · rw [← runout]
    simp [learned, Traffic.planned]
  all_goals simp [learned, Traffic.planned, applied]

theorem learned_known (table : f.index = true → DefectsHeld s) (arrival h w : Nat) :
    knownDefect (learned arrival f s) h w = knownDefect s h w := by
  have defects : (learned arrival f s).defects = (ruled arrival f s).1.defects := by simp [learned, planned, applied]
  have found : (contextFound f s).defects = s.defects ∧ (contextFound f s).settings = s.settings := by simp [contextFound]
  have aged := clockStage_defects arrival f.head f.wedge f.index (contextFound f s)
  rw [found.1, found.2] at aged
  by_cases event : (clockStage arrival f.head f.wedge f.index (contextFound f s)).2.event = true
  · rw [if_pos event] at aged
    have index : f.index = true := by
      rw [clockStage_result] at event
      exact (Bool.and_eq_true _ _ ▸ event).2
    exact knownDefect_aged (defectsHeld_iff.mp (table index)).2 _ _ (defects.trans aged) h w
  · rw [if_neg event] at aged
    rw [knownDefect, knownDefect, defects.trans aged]

/-- The context before stage 6, less the settle count, is the one the frame found. -/
theorem learned_context (arrival : Nat) (f : WedgeRead) (s : State) (k : Nat) : headContext (learned arrival f s) k =
    if k = f.head then { headContext s f.head with settle := settleFound s f.head - 1 } else headContext s k := by
  rw [headContext, (learned_same arrival f s).2.2.2.2.2.1]
  exact headContext_contextFound f s k

theorem facts_offset (arrival : Nat) (f : WedgeRead) (s : State) :
    (facts arrival f s).offset = effectiveOffset (computedAgainst s f) f.head := by
  have recs := (applied_computed arrival f s).2
  simp only [facts, effectiveOffset, tracking_congr recs, headRec, recs]

/-- The error of a demodulated frame, against what its apply leaves (R25 to R30). -/
theorem residual_learned (arrival : Nat) (f : WedgeRead) (s : State) :
    Machine.residual (learned arrival f s) (facts arrival f s).offset f = unclampedError (computedAgainst s f) f := by
  obtain ⟨runout, linTab, -, -, -, -, offsets⟩ := learned_same arrival f s
  obtain ⟨linTab', contexts, offsets'⟩ := computedAgainst_same s f
  have comp : (headRec (learned arrival f s) f.head).compEnable = (headRec (computedAgainst s f) f.head).compEnable :=
    offsets.controls.2.2.1.trans offsets'.controls.2.2.1.symm
  have context : headContext (computedAgainst s f) f.head = headContext s f.head := by rw [headContext, contexts]; rfl
  have lin : linPoint (learned arrival f s) f.head = linPoint (computedAgainst s f) f.head := by
    funext k
    rw [linPoint, linPoint, linTab, linTab']
  have entry : runoutEntry (learned arrival f s) f.head f.wedge = runoutEntry (computedAgainst s f) f.head f.wedge := by
    rw [runoutEntry, runoutEntry, runout]
  unfold Machine.residual unclampedError positionError
  rw [facts_offset, comp, lin, entry, learned_context, if_pos rfl, context]
  rfl

/-- The frame's class (R21, R35, R94). -/
theorem classify_learned (table : f.index = true → DefectsHeld s) (arrival : Nat) :
    classify (learned arrival f s) (facts arrival f s).offset f =
      if knownDefect s f.head f.wedge = true ∨ faulty (headRec s f.head).burstFloor f = true then .held
      else .demodulated (unclampedError (computedAgainst s f) f) := by
  obtain ⟨-, floor, -⟩ := (learned_same arrival f s).2.2.2.2.2.2.controls
  rw [classify, learned_known table, floor, residual_learned]
  by_cases known : knownDefect s f.head f.wedge = true
  · simp [known]
  · by_cases fault : faulty (headRec s f.head).burstFloor f = true <;> simp [known, fault]

end Sys2Proof.Classes
end

section
/-! PROOFS. What an eligible WEDGE frame puts into the LOOP class (R17, R18, R135). -/

namespace Sys2Proof.Forwards

set_option Elab.async false

open Sys2Proof.Machine Sys2Proof.Safety Sys2Proof.Traffic Sys2Proof.Notices Sys2Proof.Frames Sys2Proof.Misses
  Sys2Proof.Classes

variable {s t : State} {arrival : Nat} {f : WedgeRead}

/-! ### Frames offered one after another (R135) -/

/-- Frames offered to the LOOP class in their order. -/
def offerLoops (frames : List Frame) (s : State) : State := frames.foldl (fun s f => offerLoop f s) s

theorem offerLoop_sending (g : Frame) (busy : s.out.sending.isSome = true) : (offerLoop g s).out.sending.isSome = true := by
  obtain ⟨h, sending⟩ := Option.isSome_iff_exists.mp busy
  rw [(offerLoop_carried g s).sending sending]
  rfl

/-- Two rounds of counting are one (R156). -/
theorem saturated_saturated (c m n : Nat) : saturated (saturated c m) n = saturated c (m + n) := by
  unfold saturated
  generalize 65535 = limit
  omega

/-- A full queue loses its oldest frame to each newcomer. -/
theorem offerLoop_drops (g : Frame) (busy : s.out.sending.isSome = true) (small : s.out.loop.length ≤ 8) :
    (offerLoop g s).out.loop = (s.out.loop ++ [g]).drop (s.out.loop.length + 1 - 8) := by
  rw [offerLoop_busy g busy]
  split
  · next room => rw [show s.out.loop.length + 1 - 8 = 0 by omega, List.drop_zero]
  · next full => rw [show s.out.loop.length + 1 - 8 = 1 by omega, List.drop_append_of_le_length (by omega)]

theorem offerLoops_busy (frames : List Frame) (busy : s.out.sending.isSome = true) (small : s.out.loop.length ≤ 8) :
    (offerLoops frames s).out.loop = (s.out.loop ++ frames).drop (s.out.loop.length + frames.length - 8) ∧
      readCounter (offerLoops frames s) 13 = if s.out.loop.length + frames.length - 8 = 0 then readCounter s 13
        else saturated (readCounter s 13) (s.out.loop.length + frames.length - 8) := by
  induction frames generalizing s with
  | nil =>
    have none : s.out.loop.length + 0 - 8 = 0 := by omega
    simp only [List.append_nil, List.length_nil, none, List.drop_zero, if_true]
    exact ⟨rfl, rfl⟩
  | cons g frames ih =>
    have drops := offerLoop_drops g busy small
    have length : (offerLoop g s).out.loop.length = min (s.out.loop.length + 1) 8 := by
      rw [drops, List.length_drop, List.length_append, List.length_singleton]
      omega
    obtain ⟨loop, counter⟩ := ih (offerLoop_sending g busy) (by omega)
    refine ⟨loop.trans ?_, counter.trans ?_⟩
    · rw [length, drops, ← List.drop_append_of_le_length (by rw [List.length_append, List.length_singleton]; omega),
        List.drop_drop, List.append_assoc, List.singleton_append, List.length_cons]
      congr 1
      omega
    · rw [length, readCounter_offerLoop_drop, List.length_cons]
      by_cases room : s.out.loop.length < 8
      · rw [if_pos room, show min (s.out.loop.length + 1) 8 + frames.length = s.out.loop.length + (frames.length + 1) by omega]
      · rw [if_neg room, saturated_saturated, show min (s.out.loop.length + 1) 8 + frames.length - 8 = frames.length by omega,
          show s.out.loop.length + (frames.length + 1) - 8 = 1 + frames.length by omega,
          if_neg (show ¬1 + frames.length = 0 by omega)]
        split
        · next none => rw [none]
        · rfl

/-! ### The frames of a head's mode (R17) -/

theorem attention_offerLoop (g : Frame) (s : State) : attention (offerLoop g s) = attention s := by
  unfold attention
  rcases Carried.offerLoop_alerts g s with e | e <;> rw [e]
  rfl

/-- What the POSITION carries once it is offered. -/
def completed (p : Position) (s : State) : Position :=
  { p with flags := { p.flags with offtrack := tripped s p.head, attention := attention s } }

theorem forward_eq (bytes : Frame) (p : Position) (s : State) :
    forward bytes p s = offerLoops (loopFrames (headRec s p.head).mode bytes (positionFrame (completed p s))) s := by
  unfold forward
  rcases (headRec s p.head).mode with _ | _ | _
  · rfl
  · rfl
  · dsimp only [offerPosition]
    rw [attention_offerLoop]
    rfl

/-! ### The POSITION's contents (R18, R33, R35) -/

/-- The contents of an eligible frame's POSITION, less OFFTRACK and ATTENTION. -/
def contents (arrival : Nat) (f : WedgeRead) (s : State) : Position :=
  let fault := faulty (headRec s f.head).burstFloor f
  let defect := knownDefect s f.head f.wedge
  let ec := unclampedError (computedAgainst s f) f
  let eOut := if fault || defect then (headContext s f.head).held else max (-32768) (min 32767 ec)
  { head := f.head
    wedge := f.wedge
    track := f.track
    eOut := eOut
    flags :=
      { missed := false
        held := fault || defect
        defect := defect
        fault := fault
        settling := decide (0 < settleFound s f.head)
        seeking := (headContext s f.head).seeking
        noTarget := !(headContext s f.head).targetValid
        saturated := !(fault || defect) && decide (eOut ≠ ec)
        early := rulingOn arrival f s == .early || rulingOn arrival f s == .slip
        late := rulingOn arrival f s == .late
        compensated := !(fault || defect) && (headRec s f.head).compEnable } }

theorem clampOutput_eq (x : Int) : clampOutput x = max (-32768) (min 32767 x) := Ranges.clamp_eq _ _ _ (by decide)

theorem facts_fields (arrival : Nat) (f : WedgeRead) (s : State) :
    (facts arrival f s).clock.ruling = rulingOn arrival f s ∧
      (facts arrival f s).clock.lockedOnTime = (s.clock.state == .locked && rulingOn arrival f s == .onTime) ∧
      (facts arrival f s).props =
        { settling := decide (0 < settleFound s f.head)
          seeking := (headContext s f.head).seeking
          noTarget := !(headContext s f.head).targetValid } := by
  have clock : (facts arrival f s).clock = _ := clockStage_result arrival f (contextFound f s)
  have same : (contextFound f s).clock = s.clock := by simp [contextFound]
  rw [clock, rulingOn_contextFound, same]
  exact ⟨rfl, rfl, contextFound_props f s⟩

theorem classed_contents (table : f.index = true → DefectsHeld s) (arrival : Nat) :
    (classed arrival f s).2 = contents arrival f s := by
  obtain ⟨ruling, -, props⟩ := facts_fields arrival f s
  obtain ⟨-, floor, comp, -⟩ := (learned_same arrival f s).2.2.2.2.2.2.controls
  have context : (headContext (learned arrival f s) f.head).held = (headContext s f.head).held := by
    rw [learned_context, if_pos rfl]
  unfold classed frameStage
  rw [classify_learned table, learned_known table, floor, comp, context]
  by_cases held : knownDefect s f.head f.wedge = true ∨ faulty (headRec s f.head).burstFloor f = true
  · have either : (faulty (headRec s f.head).burstFloor f || knownDefect s f.head f.wedge) = true := by
      rw [Bool.or_eq_true]
      exact held.symm
    rw [if_pos held]
    simp only [contents, takenFlags, either, ruling, props, Bool.not_true, Bool.false_and, if_true]
  · have fine : faulty (headRec s f.head).burstFloor f = false ∧ knownDefect s f.head f.wedge = false := by
      simpa [and_comm] using held
    have differs : ∀ a b : Int, (a != b) = decide (a ≠ b) := fun a b => by
      rw [Bool.eq_iff_iff, bne_iff_ne, decide_eq_true_iff]
    rw [if_neg held]
    simp only [contents, takenFlags, fine.1, fine.2, ruling, props, Bool.or_self, Bool.not_false, Bool.true_and,
      Bool.false_eq_true, if_false, clampOutput_eq, differs]

/-! ### The stages before the LOOP class -/

/-- What an eligible frame goes through before the LOOP class. -/
def stages : Footprint :=
  { counters := [.windowMiss, .slips, .acquireFails, .passRestarts, .reportDrop, .budgetDrop, .thinWedges, .stepsFailed,
      .heldFrames, .saturatedFrames, .defectDrop]
    alerts := [.clockLocked, .offtrack, .defectConfirmed, .defectFull, .reportOverflow, .stepDone, .stepFailed, .planEnd]
    report := true
    budget := true
    timer := true }

theorem classed_stages (arrival : Nat) (f : WedgeRead) (s : State) : Carried stages s (classed arrival f s).1 := by
  have ruled := (ruled_carried arrival f s).mono (G := stages) (by decide)
  have applied : Carried stages s (applied arrival f s).1 := ruled.andThen (applyStage_carried f.head f.index _)
  have learned : Carried stages s (learned arrival f s) :=
    (applied.andThen (planStage_carried _ _ _ _)).trans (engineStage_carried _ _ _ _)
  exact learned.andThen (frameStage_carried f _ _)

/-- The state in which the frames of an eligible frame are offered. -/
def settled (arrival : Nat) (f : WedgeRead) (s : State) : State := passTargetChange f.head (classed arrival f s).1

theorem settled_stages (arrival : Nat) (f : WedgeRead) (s : State) : Carried stages s (settled arrival f s) :=
  (classed_stages arrival f s).andRest (alerts := by simp [settled]) (out := by simp [settled]) (link := by simp [settled])
    (settings := by simp [settled])

theorem settled_mode (arrival : Nat) (f : WedgeRead) (s : State) :
    (headRec (settled arrival f s) f.head).mode = (headRec s f.head).mode := by
  have same : (settled arrival f s).headRecs = (learned arrival f s).headRecs := by simp [settled, classed]
  rw [headRec, same]
  exact (learned_same arrival f s).2.2.2.2.2.2.controls.1

/-- An eligible frame's LOOP frames. -/
theorem handleWedge_offers (table : f.index = true → DefectsHeld s) (arrival : Nat) (bytes : Frame) :
    handleWedge arrival f bytes s = offerLoops (loopFrames (headRec s f.head).mode bytes
      (positionFrame (completed (contents arrival f s) (settled arrival f s)))) (settled arrival f s) := by
  rw [handleWedge_eq, classed_contents table, forward_eq, ← settled_mode arrival f s]
  rfl

theorem attention_offerLoops (frames : List Frame) (s : State) : attention (offerLoops frames s) = attention s := by
  induction frames generalizing s with
  | nil => rfl
  | cons g frames ih => exact (ih _).trans (attention_offerLoop g s)

theorem contexts_offerLoops (frames : List Frame) (s : State) : (offerLoops frames s).contexts = s.contexts := by
  induction frames generalizing s with
  | nil => rfl
  | cons g frames ih => exact (ih _).trans (by simp)

/-- Settles O18: the frames of the head's mode, offered in their order. -/
theorem eligibleWedgeReachesTheLoopClass : Obligations.EligibleWedgeReachesTheLoopClass := by
  intro s arrival f r c fault defect held ec eOut ruling arrives eligible table busy small
  refine ⟨handleWedge arrival r f.bytes s, by rw [exec_arrived arrives]; exact congrArg _ (if_pos eligible), ?_⟩
  obtain ⟨g, sending⟩ := Option.isSome_iff_exists.mp busy
  have carried := settled_stages arrival r s
  have loop : (settled arrival r s).out.loop = s.out.loop := carried.loop_eq rfl sending
  have drops : readCounter (settled arrival r s) 13 = readCounter s 13 := carried.counter_eq (c := .loopDrop) (by decide)
  have busy' : (settled arrival r s).out.sending.isSome = true := by rw [carried.sending sending]; rfl
  have offered := offerLoops_busy (loopFrames (headRec s r.head).mode f.bytes
    (positionFrame (completed (contents arrival r s) (settled arrival r s)))) busy' (by rw [loop]; exact small)
  have tripped : tripped (settled arrival r s) r.head =
      ((headContext (handleWedge arrival r f.bytes s) r.head).monitor == .tripped) := by
    rw [handleWedge_offers table, headContext, contexts_offerLoops]
    rfl
  have attention : attention (settled arrival r s) = attention (handleWedge arrival r f.bytes s) := by
    rw [handleWedge_offers table, attention_offerLoops]
  rw [← handleWedge_offers table arrival f.bytes, loop, drops, completed, attention,
    show (contents arrival r s).head = r.head from rfl, tripped] at offered
  exact offered

end Sys2Proof.Forwards
end

section
/-! PROOFS. Stage 6 of an eligible WEDGE frame: contexts, samples and contributions, held or demodulated (R33, R35, R37, R83, R111,
R115, R126 to R129). -/

namespace Sys2Proof.Samplings

set_option Elab.async false

open Sys2Proof.Machine Sys2Proof.Safety Sys2Proof.Traffic Sys2Proof.Notices Sys2Proof.Frames Sys2Proof.Contexts
  Sys2Proof.Monitors Sys2Proof.Classes Sys2Proof.Forwards

variable {s t u : State} {arrival : Nat} {f : WedgeRead} {k : FrameFacts} {ec : Int}

/-! ### A held and a demodulated frame -/

/-- The frame is held: at an entry that is not SUSPECT, or FAULT (R35). -/
def Held (s : State) (f : WedgeRead) : Prop :=
  knownDefect s f.head f.wedge = true ∨ faulty (headRec s f.head).burstFloor f = true

/-- The state once a held frame is counted. -/
def heldState (arrival : Nat) (f : WedgeRead) (s : State) : State :=
  heldStage f (faulty (headRec s f.head).burstFloor f) (learned arrival f s)

theorem classed_held (table : f.index = true → DefectsHeld s) (arrival : Nat) (held : Held s f) :
    (classed arrival f s).1 =
      settleWatch f.head (tripped (heldState arrival f s) f.head) false (heldState arrival f s) := by
  obtain ⟨-, floor, -⟩ := (learned_same arrival f s).2.2.2.2.2.2.controls
  unfold classed frameStage heldState
  rw [classify_learned table, if_pos (show _ ∨ _ from held), floor]

/-- A demodulated frame after its monitor. -/
def counted (f : WedgeRead) (k : FrameFacts) (ec : Int) (s : State) : State :=
  if k.props.seeking then storeDemodulated ec f s
  else (monitorCount f.head f.wedge (clampOutput ec) (storeDemodulated ec f s)).1

/-- The monitor tripped at the frame. -/
def trips (f : WedgeRead) (k : FrameFacts) (ec : Int) (s : State) : Bool :=
  !k.props.seeking && (stepOf (storeDemodulated ec f s) f.head (clampOutput ec)).transition == .trip

/-- What a demodulated frame offers an OFFSET or VERIFY step (R127). -/
def contribution (f : WedgeRead) (k : FrameFacts) (ec : Int) (s : State) : Contribution :=
  { head := f.head, residual := ec, offset := k.offset, output := clampOutput ec, lockedOnTime := k.clock.lockedOnTime
    quietFrame := k.props.quiet, tripped := tripped s f.head }

theorem demodulatedStage_eq (f : WedgeRead) (k : FrameFacts) (ec : Int) (s : State) : demodulatedStage f k ec s =
    (contribute (contribution f k ec (sampleStage f k ec (counted f k ec s))) (sampleStage f k ec (counted f k ec s)),
      trips f k ec s) := by
  unfold demodulatedStage counted trips
  cases k.props.seeking <;> rfl

theorem classed_demodulated (table : f.index = true → DefectsHeld s) (arrival : Nat) (fine : ¬Held s f) :
    (classed arrival f s).1 =
      settleWatch f.head
        (tripped (demodulatedStage f (facts arrival f s) (unclampedError (computedAgainst s f) f) (learned arrival f s)).1 f.head)
        (trips f (facts arrival f s) (unclampedError (computedAgainst s f) f) (learned arrival f s))
        (demodulatedStage f (facts arrival f s) (unclampedError (computedAgainst s f) f) (learned arrival f s)).1 := by
  unfold classed frameStage
  rw [classify_learned table, if_neg (show ¬(_ ∨ _) from fine)]
  dsimp only
  rw [demodulatedStage_eq]

/-! ### Contexts (R33, R111) -/

theorem headContext_settled (arrival : Nat) (f : WedgeRead) (s : State) (j : Nat) : headContext (settled arrival f s) j =
    if j = f.head then { headContext (classed arrival f s).1 f.head with retargeted := false }
    else headContext (classed arrival f s).1 j := by
  rw [settled, passTargetChange, Laws.headContext_setHeadContext]

theorem headContext_handleWedge (table : f.index = true → DefectsHeld s) (arrival : Nat) (bytes : Frame) (j : Nat) :
    headContext (handleWedge arrival f bytes s) j = headContext (settled arrival f s) j := by
  rw [handleWedge_offers table, headContext, contexts_offerLoops]
  rfl

theorem headContext_held (table : f.index = true → DefectsHeld s) (arrival : Nat) (held : Held s f) (j : Nat) :
    headContext (classed arrival f s).1 j = headContext (learned arrival f s) j := by
  have same : (classed arrival f s).1.contexts = (learned arrival f s).contexts := by
    rw [classed_held table arrival held]
    simp [heldState]
  rw [headContext, same]
  rfl

theorem headContext_counted (f : WedgeRead) (k : FrameFacts) (ec : Int) (s : State) (j : Nat) :
    headContext (counted f k ec s) j =
      if j = f.head then
        { headContext s f.head with
          held := clampOutput ec
          lastTrack := f.track
          monitor := if k.props.seeking then (headContext s f.head).monitor else (stepOf s f.head (clampOutput ec)).state
          run := if k.props.seeking then (headContext s f.head).run else (stepOf s f.head (clampOutput ec)).run }
      else headContext s j := by
  have stored : ∀ j, headContext (storeDemodulated ec f s) j =
      if j = f.head then { headContext s f.head with held := clampOutput ec, lastTrack := f.track } else headContext s j :=
    fun j => by
      rw [headContext, storeDemodulated_contexts, Laws.get_set]
      rfl
  have step : stepOf (storeDemodulated ec f s) f.head (clampOutput ec) = stepOf s f.head (clampOutput ec) := by
    have settings : (storeDemodulated ec f s).settings = s.settings := by simp
    simp only [stepOf, settings, stored, if_true]
    rfl
  unfold counted
  cases seeking : k.props.seeking
  · simp only [Bool.false_eq_true, if_false]
    rw [monitorCount_headContext, step, stored, stored, if_pos rfl]
    split <;> rfl
  · simp only [if_true]
    exact stored j

theorem headContext_demodulated (table : f.index = true → DefectsHeld s) (arrival : Nat) (fine : ¬Held s f) (j : Nat) :
    headContext (classed arrival f s).1 j =
      headContext (counted f (facts arrival f s) (unclampedError (computedAgainst s f) f) (learned arrival f s)) j := by
  have same : (classed arrival f s).1.contexts =
      (counted f (facts arrival f s) (unclampedError (computedAgainst s f) f) (learned arrival f s)).contexts := by
    rw [classed_demodulated table arrival fine, demodulatedStage_eq]
    simp
  rw [headContext, same]
  rfl

/-- The step of the monitor reads the head's monitor and run alone. -/
theorem stepOf_learned (arrival : Nat) (f : WedgeRead) (s : State) (eOut : Int) :
    stepOf (learned arrival f s) f.head eOut =
      monitorStep s.settings (decide (s.settings.threshold < eOut.natAbs)) (headContext s f.head) := by
  have settings := (learned_same arrival f s).2.2.1
  rw [stepOf, settings, learned_context, if_pos rfl]
  rfl

/-- The head's context after a held frame. -/
theorem handleWedge_context_held (table : f.index = true → DefectsHeld s) (arrival : Nat) (bytes : Frame) (held : Held s f) :
    headContext (handleWedge arrival f bytes s) f.head =
      { headContext s f.head with settle := settleFound s f.head - 1, retargeted := false } := by
  rw [headContext_handleWedge table, headContext_settled, if_pos rfl, headContext_held table arrival held, learned_context,
    if_pos rfl]

/-- The head's context after a demodulated frame. -/
theorem handleWedge_context_demodulated (table : f.index = true → DefectsHeld s) (arrival : Nat) (bytes : Frame)
    (fine : ¬Held s f) {eOut : Int} (clamped : clampOutput (unclampedError (computedAgainst s f) f) = eOut) {m : MonStep}
    (step : monitorStep s.settings (decide (s.settings.threshold < eOut.natAbs)) (headContext s f.head) = m) :
    headContext (handleWedge arrival f bytes s) f.head = { headContext s f.head with
      settle := settleFound s f.head - 1
      held := eOut
      lastTrack := f.track
      monitor := if (headContext s f.head).seeking then (headContext s f.head).monitor else m.state
      run := if (headContext s f.head).seeking then (headContext s f.head).run else m.run
      retargeted := false } := by
  have props := (facts_fields arrival f s).2.2
  rw [headContext_handleWedge table, headContext_settled, if_pos rfl, headContext_demodulated table arrival fine,
    headContext_counted, if_pos rfl, clamped, stepOf_learned, step, learned_context, if_pos rfl, props]

theorem handleWedge_context_other (table : f.index = true → DefectsHeld s) (arrival : Nat) (bytes : Frame) {j : Nat}
    (other : j ≠ f.head) : headContext (handleWedge arrival f bytes s) j = headContext s j := by
  have left : headContext (learned arrival f s) j = headContext s j := by rw [learned_context, if_neg other]
  rw [headContext_handleWedge table, headContext_settled, if_neg other, ← left]
  by_cases held : Held s f
  · exact headContext_held table arrival held j
  · rw [headContext_demodulated table arrival held, headContext_counted, if_neg other]

/-! ### The ACTIVE step of the head (R126 to R129) -/

theorem monitorStep_trip (set : Settings) (beyond : Bool) (c : HeadContext) :
    ((monitorStep set beyond c).transition == .trip) =
      ((monitorStep set beyond c).state == .tripped && c.monitor != .tripped) := by
  unfold monitorStep
  cases beyond with
  | false =>
    cases c.monitor with
    | clear | pending => rfl
    | tripped => dsimp only; split <;> rfl
  | true =>
    cases c.monitor with
    | clear | pending => dsimp only; split <;> rfl
    | tripped => rfl

/-- The registers after a contribution. -/
def contributed (c : Contribution) (takes : Bool) (phase : Phase) (r : Registers) : Registers :=
  match phase with
  | .offset =>
    if takes && decide (r.offsetCount < 65535) then
      { r with offsetSum := r.offsetSum + (c.residual + c.offset), offsetCount := r.offsetCount + 1 }
    else r
  | .verify =>
    if takes && !c.tripped && decide (r.verifyCount < 65535) then
      { r with
        verifyGreatest := max r.verifyGreatest c.output.natAbs
        verifySum := r.verifySum + c.output.natAbs
        verifyCount := r.verifyCount + 1 }
    else r
  | _ => r

theorem contribute_active {c : Contribution} {n : Nat} (current : s.plan.current = some n) (active : s.plan.sub = some .active)
    (head : (planStep s n).head = c.head) : (contribute c s).plan =
      { s.plan with regs := contributed c (contributes c s) (planStep s n).phase s.plan.regs } := by
  unfold contribute
  split
  · next m current' _ =>
    obtain rfl : n = m := Option.some.inj (current.symm.trans current')
    dsimp only
    by_cases takes : contributes c s = true
    · rw [if_pos ⟨head, takes⟩, takes]
      cases (planStep s n).phase with
      | offset =>
        simp only [contributed, Bool.true_and, decide_eq_true_eq]
        split <;> rfl
      | verify =>
        simp only [contributed, Bool.true_and, Bool.and_eq_true, Bool.not_eq_true', decide_eq_true_eq, and_comm]
        split <;> rfl
      | none | settle | learn => rfl
    · rw [if_neg fun e => takes e.2, Bool.eq_false_iff.mpr takes]
      cases (planStep s n).phase <;> rfl
  · next none => exact absurd active (none n current)

/-- The registers after SETTLE's watch. -/
def watched (tripped trip : Bool) (phase : Phase) (r : Registers) : Registers :=
  match phase with
  | .settle => { r with
      settleMark := r.settleMark || tripped
      settleTrips := if trip then r.settleTrips + 1 else r.settleTrips }
  | _ => r

theorem settleWatch_active {h n : Nat} {tripped trip : Bool} (current : s.plan.current = some n)
    (active : s.plan.sub = some .active) (head : (planStep s n).head = h) : (settleWatch h tripped trip s).plan =
      { s.plan with regs := watched tripped trip (planStep s n).phase s.plan.regs } := by
  unfold settleWatch
  split
  · next m current' _ =>
    obtain rfl : n = m := Option.some.inj (current.symm.trans current')
    by_cases settle : (planStep s n).phase = .settle
    · rw [if_pos ⟨settle, head⟩, settle]
      rfl
    · rw [if_neg fun e => settle e.1]
      cases phase : (planStep s n).phase with
      | settle => exact absurd phase settle
      | none | offset | learn | verify => rfl
  · next none => exact absurd active (none n current)

/-- A plan without an ACTIVE step on the head is fed nothing. -/
theorem fedPlan_away {p : Plan} (away : ∀ n, p.current = some n → p.sub = some .active → (planStep s n).head ≠ f.head) :
    fedPlan arrival f s t p = p := by
  unfold fedPlan
  split
  · next n current active => exact if_neg (away n current active)
  · rfl

theorem fedPlan_active {p : Plan} {n : Nat} (current : p.current = some n) (active : p.sub = some .active)
    (head : (planStep s n).head = f.head) :
    fedPlan arrival f s t p = { p with regs := fed arrival f s t (planStep s n).phase p.regs } := by
  unfold fedPlan
  split
  · next m current' _ =>
    obtain rfl : n = m := Option.some.inj (current.symm.trans current')
    exact if_pos head
  · next none => exact absurd active (none n current)

/-- Which plans have no ACTIVE step on a head. -/
theorem unattended_or_active (u : State) (h : Nat) : Unattended u h ∨
    ∃ n, u.plan.current = some n ∧ u.plan.sub = some .active ∧ (planStep u n).head = h := by
  by_cases active : u.plan.sub = some .active ∧ stepHead u = some h
  · obtain ⟨n, current, head⟩ := Option.map_eq_some_iff.mp active.2
    exact .inr ⟨n, current, active.1, head⟩
  · exact .inl fun sub head => active ⟨sub, head⟩

theorem tripped_classed (table : f.index = true → DefectsHeld s) (arrival : Nat) (bytes : Frame) :
    ((headContext (handleWedge arrival f bytes s) f.head).monitor == .tripped) = tripped (classed arrival f s).1 f.head := by
  rw [headContext_handleWedge table, headContext_settled, if_pos rfl]
  rfl

/-- What a frame that is not measurable leaves of the registers, but for SETTLE's mark. -/
theorem fed_unmeasured {phase : Phase} {r : Registers} (idle : measurable arrival f s = false)
    (steady : (headContext t f.head).monitor = (headContext s f.head).monitor) :
    fed arrival f s t phase r = watched ((headContext t f.head).monitor == .tripped) false phase r := by
  cases phase with
  | settle => simp [fed, watched, steady]
  | offset | verify => simp [fed, watched, idle]
  | none | learn => rfl

/-- What a demodulated frame leaves of them. -/
theorem fed_demodulated {phase : Phase} {r : Registers} {c : Contribution} {trip : Bool}
    (residual : c.residual = unclampedError (computedAgainst s f) f)
    (offset : c.offset = effectiveOffset (computedAgainst s f) f.head)
    (output : c.output = max (-32768) (min 32767 (unclampedError (computedAgainst s f) f)))
    (tripped : c.tripped = ((headContext t f.head).monitor == .tripped))
    (trips : trip = (((headContext t f.head).monitor == .tripped) && (headContext s f.head).monitor != .tripped)) :
    fed arrival f s t phase r =
      watched ((headContext t f.head).monitor == .tripped) trip phase (contributed c (measurable arrival f s) phase r) := by
  cases phase with
  | settle =>
    simp only [fed, watched, contributed, trips]
    split <;> rfl
  | offset => simp only [fed, watched, contributed, residual, offset]
  | verify => simp only [fed, watched, contributed, output, tripped]
  | none | learn => rfl

theorem handleWedge_plan_classed (arrival : Nat) (f : WedgeRead) (bytes : Frame) (s : State) :
    (handleWedge arrival f bytes s).plan = (classed arrival f s).1.plan := by
  rw [handleWedge_eq]
  simp

theorem planStep_learned (arrival : Nat) (f : WedgeRead) (s : State) (n : Nat) :
    planStep (learned arrival f s) n = planStep s n := by
  rw [planStep, planStep, (learned_same arrival f s).2.2.2.1]

theorem measurable_held (held : Held s f) : measurable arrival f s = false := by
  unfold measurable
  rcases held with known | fault
  · simp [known]
  · simp [fault]

/-- A held frame feeds SETTLE's mark alone. -/
theorem handleWedge_plan_held (table : f.index = true → DefectsHeld s) (arrival : Nat) (bytes : Frame) (held : Held s f) :
    (handleWedge arrival f bytes s).plan =
      fedPlan arrival f s (handleWedge arrival f bytes s) (learned arrival f s).plan := by
  have plan : (heldState arrival f s).plan = (learned arrival f s).plan := by simp [heldState]
  have steps : (heldState arrival f s).steps = (learned arrival f s).steps := by simp [heldState]
  have step : ∀ n, planStep (heldState arrival f s) n = planStep s n := fun n => by
    rw [← planStep_learned arrival f s n, planStep, planStep, steps]
  have steady := congrArg HeadContext.monitor (handleWedge_context_held table arrival bytes held)
  have after : tripped (classed arrival f s).1 f.head = tripped (heldState arrival f s) f.head := by
    rw [tripped, tripped, headContext_held table arrival held]
    exact congrArg (fun c : Table HeadContext => (Table.get {} c f.head).monitor == .tripped) (by simp [heldState])
  rw [handleWedge_plan_classed]
  rcases unattended_or_active (heldState arrival f s) f.head with away | ⟨n, current, active, head⟩
  · have none : ∀ n, (learned arrival f s).plan.current = some n → (learned arrival f s).plan.sub = some .active →
        (planStep s n).head ≠ f.head := fun n current active => by
      rw [← step]
      exact away.step (by rw [plan]; exact current) (by rw [plan]; exact active)
    rw [fedPlan_away none, classed_held table arrival held, settleWatch_away away, plan]
  · rw [step] at head
    rw [plan] at current active
    rw [fedPlan_active current active head, fed_unmeasured (measurable_held held) steady, tripped_classed table, after,
      classed_held table arrival held,
      settleWatch_active (by rw [plan]; exact current) (by rw [plan]; exact active) (by rw [step]; exact head), plan, step]

/-! ### A demodulated frame's contribution and sample (R83, R127) -/

section
variable (arrival : Nat) (f : WedgeRead) (s : State)

/-- A demodulated frame after its monitor, and its sample. -/
def countedState : State := counted f (facts arrival f s) (unclampedError (computedAgainst s f) f) (learned arrival f s)

def sampledState : State := sampleStage f (facts arrival f s) (unclampedError (computedAgainst s f) f) (countedState arrival f s)

theorem countedState_same : (countedState arrival f s).plan = (learned arrival f s).plan ∧
    (countedState arrival f s).engine = (learned arrival f s).engine ∧
    (countedState arrival f s).steps = (learned arrival f s).steps ∧
    (countedState arrival f s).headRecs = (learned arrival f s).headRecs ∧
    (countedState arrival f s).settings = (learned arrival f s).settings := by
  unfold countedState counted
  split <;> simp

theorem sampledState_same : (sampledState arrival f s).plan = (learned arrival f s).plan ∧
    (sampledState arrival f s).steps = (learned arrival f s).steps ∧
    (sampledState arrival f s).headRecs = (learned arrival f s).headRecs ∧
    (sampledState arrival f s).contexts = (countedState arrival f s).contexts := by
  obtain ⟨plan, -, steps, headRecs, -⟩ := countedState_same arrival f s
  rw [← plan, ← steps, ← headRecs]
  unfold sampledState
  simp
end

/-- What the facts say of the frame (R83, R127). -/
theorem measurable_facts (fine : ¬Held s f) : measurable arrival f s =
    ((facts arrival f s).clock.lockedOnTime && (facts arrival f s).props.quiet && (headRec s f.head).learnEnable) := by
  obtain ⟨-, locked, props⟩ := facts_fields arrival f s
  have clear : knownDefect s f.head f.wedge = false ∧ faulty (headRec s f.head).burstFloor f = false := by
    simpa [Held] using fine
  have settled : (!decide (0 < settleFound s f.head)) = (settleFound s f.head == 0) := by
    rw [Bool.eq_iff_iff]
    simp
  rw [measurable, locked, props, clear.1, clear.2, ← settled]
  simp only [FrameProps.quiet, Bool.not_false, Bool.true_and, Bool.not_not, Bool.and_assoc]

theorem learnEnable_learned (arrival : Nat) (f : WedgeRead) (s : State) :
    (headRec (learned arrival f s) f.head).learnEnable = (headRec s f.head).learnEnable :=
  (learned_same arrival f s).2.2.2.2.2.2.controls.2.2.2.1

theorem tripped_congr (contexts : t.contexts = s.contexts) (h : Nat) : tripped t h = tripped s h := by
  rw [tripped, tripped, headContext, headContext, contexts]

theorem tripped_demodulated (table : f.index = true → DefectsHeld s) (arrival : Nat) (bytes : Frame) (fine : ¬Held s f) :
    ((headContext (handleWedge arrival f bytes s) f.head).monitor == .tripped) = tripped (countedState arrival f s) f.head := by
  rw [tripped_classed table, tripped, headContext_demodulated table arrival fine]
  rfl

theorem trips_eq (table : f.index = true → DefectsHeld s) (arrival : Nat) (bytes : Frame) (fine : ¬Held s f) :
    trips f (facts arrival f s) (unclampedError (computedAgainst s f) f) (learned arrival f s) =
      (((headContext (handleWedge arrival f bytes s) f.head).monitor == .tripped) &&
        (headContext s f.head).monitor != .tripped) := by
  have context := handleWedge_context_demodulated table arrival bytes fine rfl rfl
  have props := (facts_fields arrival f s).2.2
  have stored : headContext (storeDemodulated (unclampedError (computedAgainst s f) f) f (learned arrival f s)) f.head =
      { headContext (learned arrival f s) f.head with
        held := clampOutput (unclampedError (computedAgainst s f) f), lastTrack := f.track } := by
    rw [headContext, storeDemodulated_contexts, Laws.get_set_same]
  have settings : (storeDemodulated (unclampedError (computedAgainst s f) f) f (learned arrival f s)).settings = s.settings := by
    rw [← (learned_same arrival f s).2.2.1]
    simp
  rw [trips, context, props, stepOf, settings, stored, monitorStep_trip, learned_context, if_pos rfl]
  cases (headContext s f.head).seeking
  · rfl
  · cases (headContext s f.head).monitor <;> rfl

/-- A demodulated frame feeds the ACTIVE step of its head. -/
theorem handleWedge_plan_demodulated (table : f.index = true → DefectsHeld s) (arrival : Nat) (bytes : Frame) (fine : ¬Held s f) :
    (handleWedge arrival f bytes s).plan =
      fedPlan arrival f s (handleWedge arrival f bytes s) (learned arrival f s).plan := by
  obtain ⟨plan, steps, headRecs, contexts⟩ := sampledState_same arrival f s
  have step : ∀ n, planStep (sampledState arrival f s) n = planStep s n := fun n => by
    rw [← planStep_learned arrival f s n, planStep, planStep, steps]
  have trip := trips_eq table arrival bytes fine
  have after := tripped_demodulated table arrival bytes fine
  have stage := demodulatedStage_eq f (facts arrival f s) (unclampedError (computedAgainst s f) f) (learned arrival f s)
  rw [show sampleStage f _ _ (counted f _ _ _) = sampledState arrival f s from rfl] at stage
  have fedby := fun (phase : Phase) (r : Registers) => fed_demodulated (phase := phase) (r := r) (arrival := arrival) (f := f) (s := s) (t := handleWedge arrival f bytes s)
    (c := contribution f (facts arrival f s) (unclampedError (computedAgainst s f) f) (sampledState arrival f s))
    rfl (facts_offset arrival f s) (clampOutput_eq _) ((tripped_congr contexts f.head).trans after.symm) trip
  have takes : contributes (contribution f (facts arrival f s) (unclampedError (computedAgainst s f) f) (sampledState arrival f s))
      (sampledState arrival f s) = measurable arrival f s := by
    rw [measurable_facts fine, ← learnEnable_learned arrival f s, headRec, ← headRecs]
    rfl
  generalize hc : contribution f (facts arrival f s) (unclampedError (computedAgainst s f) f) (sampledState arrival f s) = c
    at stage fedby takes
  have head : c.head = f.head := by rw [← hc]; rfl
  have same : tripped (contribute c (sampledState arrival f s)) f.head =
      ((headContext (handleWedge arrival f bytes s) f.head).monitor == .tripped) := by
    rw [after]
    exact tripped_congr (by simp [contexts]) f.head
  rw [handleWedge_plan_classed, classed_demodulated table arrival fine, stage, same]
  rcases unattended_or_active (sampledState arrival f s) f.head with away | ⟨n, current, active, own⟩
  · have none : ∀ n, (learned arrival f s).plan.current = some n → (learned arrival f s).plan.sub = some .active →
        (planStep s n).head ≠ f.head := fun n current active => by
      rw [← step]
      exact away.step (by rw [plan]; exact current) (by rw [plan]; exact active)
    rw [fedPlan_away none, contribute_away (by rw [head]; exact away), settleWatch_away away, plan]
  · have contributed := contribute_active current active (own.trans head.symm)
    rw [step, takes] at contributed
    rw [step] at own
    have fed := fedPlan_active (arrival := arrival) (f := f) (s := s) (t := handleWedge arrival f bytes s)
      (p := (learned arrival f s).plan) (by rw [← plan]; exact current) (by rw [← plan]; exact active) own
    have watch := settleWatch_active (s := contribute c (sampledState arrival f s)) (h := f.head) (n := n)
      (tripped := (headContext (handleWedge arrival f bytes s) f.head).monitor == .tripped)
      (trip := trips f (facts arrival f s) (unclampedError (computedAgainst s f) f) (learned arrival f s))
      (by rw [contributed]; exact current) (by rw [contributed]; exact active)
      (by rw [← own, ← step n, planStep, planStep]; simp)
    have steps' : planStep (contribute c (sampledState arrival f s)) n = planStep s n := by
      rw [← step n, planStep, planStep]
      simp
    rw [watch, contributed, steps', fed, fedby, plan]

/-- Stage 6 feeds the ACTIVE step of the frame's head what its phase measures. -/
theorem handleWedge_plan (table : f.index = true → DefectsHeld s) (arrival : Nat) (bytes : Frame) :
    (handleWedge arrival f bytes s).plan =
      fedPlan arrival f s (handleWedge arrival f bytes s) (learned arrival f s).plan := by
  by_cases held : Held s f
  · exact handleWedge_plan_held table arrival bytes held
  · exact handleWedge_plan_demodulated table arrival bytes held

/-- The engine once a frame's sample is judged (R83): `ec` its error, taken if `takes`. -/
def sampledEngine (w : Nat) (ec : Int) (takes : Bool) (limit : Nat) (e : Engine) : Engine :=
  if takes ∧ e.pass = .accumulate ∧ (Table.get {} e.cells w).count < limit then
    { e with cells := Table.set {} e.cells w (Cell.mk ((Table.get {} e.cells w).sum + ec) ((Table.get {} e.cells w).count + 1)) }
  else e

theorem sampleStage_engine (f : WedgeRead) (k : FrameFacts) (ec : Int) (s : State) : (sampleStage f k ec s).engine =
    sampledEngine f.wedge ec (boundTo s f.head && (k.clock.lockedOnTime && k.props.quiet && (headRec s f.head).learnEnable &&
      !tripped s f.head && decide (ec.natAbs ≤ s.settings.learnWindow))) (cellLimit s) s.engine := by
  have accepted : sampleAccepted f k ec s = true ↔
      (boundTo s f.head && (k.clock.lockedOnTime && k.props.quiet && (headRec s f.head).learnEnable &&
        !tripped s f.head && decide (ec.natAbs ≤ s.settings.learnWindow))) = true ∧ s.engine.pass = .accumulate ∧
        (Table.get {} s.engine.cells f.wedge).count < cellLimit s := by
    unfold sampleAccepted engineCell
    simp only [Bool.and_eq_true, beq_iff_eq, decide_eq_true_eq]
    tauto
  unfold sampleStage sampledEngine
  by_cases takes : sampleAccepted f k ec s = true
  · rw [if_pos takes, if_pos (accepted.mp takes)]
    rfl
  · rw [if_neg takes, if_neg fun e => takes (accepted.mpr e)]

/-- Stage 6 takes the sample of a sampleable frame into a pass of its head that accumulates. -/
theorem handleWedge_sampled (table : f.index = true → DefectsHeld s) (arrival : Nat) (bytes : Frame) :
    (handleWedge arrival f bytes s).engine = sampledEngine f.wedge (unclampedError (computedAgainst s f) f)
      (boundTo (learned arrival f s) f.head && sampleable arrival f s (handleWedge arrival f bytes s))
      (cellLimit (learned arrival f s)) (learned arrival f s).engine := by
  have engine : (handleWedge arrival f bytes s).engine = (classed arrival f s).1.engine := by
    rw [handleWedge_eq]
    simp
  rw [engine]
  by_cases held : Held s f
  · have none : sampleable arrival f s (handleWedge arrival f bytes s) = false := by
      simp [sampleable, measurable_held held]
    rw [none, Bool.and_false, sampledEngine, if_neg (by simp), classed_held table arrival held]
    simp [heldState]
  · obtain ⟨-, same, -, headRecs, settings⟩ := countedState_same arrival f s
    have window : (countedState arrival f s).settings = s.settings := settings.trans (learned_same arrival f s).2.2.1
    have takes : sampleable arrival f s (handleWedge arrival f bytes s) =
        ((facts arrival f s).clock.lockedOnTime && (facts arrival f s).props.quiet &&
          (headRec (countedState arrival f s) f.head).learnEnable && !tripped (countedState arrival f s) f.head &&
          decide ((unclampedError (computedAgainst s f) f).natAbs ≤ (countedState arrival f s).settings.learnWindow)) := by
      rw [sampleable, measurable_facts held, ← tripped_demodulated table arrival bytes held, window,
        ← learnEnable_learned arrival f s, headRec, headRec, headRecs]
      rfl
    have bound : boundTo (countedState arrival f s) f.head = boundTo (learned arrival f s) f.head :=
      boundTo_congr (congrArg Engine.binding same) f.head
    have limit : cellLimit (countedState arrival f s) = cellLimit (learned arrival f s) := by rw [cellLimit, cellLimit, same]
    have sampled := sampleStage_engine f (facts arrival f s) (unclampedError (computedAgainst s f) f) (countedState arrival f s)
    rw [← takes, bound, limit, same] at sampled
    rw [← sampled, classed_demodulated table arrival held, demodulatedStage_eq]
    simp [countedState]

/-- The cells and the rest of the engine after the sample. -/
theorem sampledEngine_cells (w : Nat) (ec : Int) (takes : Bool) (limit : Nat) (e : Engine) :
    sampledEngine w ec takes limit e = { e with cells := (sampledEngine w ec takes limit e).cells } ∧
      ∀ j, Table.get {} (sampledEngine w ec takes limit e).cells j =
        if j = w ∧ e.pass = .accumulate ∧ takes = true ∧ (Table.get {} e.cells j).count < limit then
          { sum := (Table.get {} e.cells j).sum + ec, count := (Table.get {} e.cells j).count + 1 }
        else Table.get {} e.cells j := by
  unfold sampledEngine
  split
  · next taken =>
    obtain ⟨takes, accumulate, room⟩ := taken
    refine ⟨rfl, fun j => ?_⟩
    rw [Laws.get_set]
    by_cases same : j = w
    · subst same
      rw [if_pos rfl, if_pos ⟨rfl, accumulate, takes, room⟩]
    · rw [if_neg same, if_neg fun e => same e.1]
  · next refused =>
    refine ⟨rfl, fun j => (if_neg ?_).symm⟩
    rintro ⟨rfl, accumulate, takes, room⟩
    exact refused ⟨takes, accumulate, room⟩

end Sys2Proof.Samplings
end

section
/-! PROOFS. An eligible WEDGE frame as a whole, demodulated or held (R21 to R39, R48 to R51, R83, R110, R115). -/

namespace Sys2Proof.Eligibles

set_option Elab.async false

open Sys2Proof.Machine Sys2Proof.Safety Sys2Proof.Traffic Sys2Proof.Notices Sys2Proof.Frames Sys2Proof.Misses
  Sys2Proof.Classes Sys2Proof.Forwards Sys2Proof.Samplings

variable {s t : State} {arrival : Nat} {f : WedgeRead}

/-! ### The held frames and saturated frames counters (R32, R35) -/

/-- What an eligible frame goes through before stage 6. -/
def before : Footprint :=
  { counters := [.windowMiss, .slips, .acquireFails, .passRestarts, .reportDrop, .budgetDrop, .thinWedges, .stepsFailed]
    alerts := [.clockLocked, .reportOverflow, .stepDone, .stepFailed, .planEnd]
    report := true
    budget := true
    timer := true }

theorem learned_before (arrival : Nat) (f : WedgeRead) (s : State) : Carried before s (learned arrival f s) := by
  have ruled := (ruled_carried arrival f s).mono (G := before) (by decide)
  have applied : Carried before s (applied arrival f s).1 := ruled.andThen (applyStage_carried f.head f.index _)
  exact (applied.andThen (planStage_carried _ _ _ _)).trans (engineStage_carried _ _ _ _)

/-- Forwarding counts its own drops alone. -/
theorem readCounter_forwarded {c : Counter} (other : c ∉ loops.counters) (arrival : Nat) (f : WedgeRead) (bytes : Frame) (s : State) :
    readCounter (handleWedge arrival f bytes s) c.index = readCounter (classed arrival f s).1 c.index := by
  rw [handleWedge_eq]
  exact ((forward_carried bytes _ _).counter_eq other).trans (congrArg (fun a => Table.get 0 (Alerts.counters a) _) (by simp))

theorem readCounter_heldStage (f : WedgeRead) (fault : Bool) (s : State) {c : Counter} (other : c ∉ hits.counters) :
    readCounter (heldStage f fault s) c.index = readCounter (bump .heldFrames s) c.index := by
  unfold heldStage
  dsimp only
  split
  · exact (recordHit_carried _ _ _).counter_eq other
  · rfl

/-- A held frame is counted once, as held. -/
theorem handleWedge_counts_held (table : f.index = true → DefectsHeld s) (arrival : Nat) (bytes : Frame) (held : Held s f) :
    readCounter (handleWedge arrival f bytes s) 20 = saturated (readCounter s 20) 1 ∧
      readCounter (handleWedge arrival f bytes s) 21 = readCounter s 21 := by
  have found := learned_before arrival f s
  have classed : ∀ k, readCounter (classed arrival f s).1 k = readCounter (heldState arrival f s) k := fun k => by
    rw [classed_held table arrival held]
    exact congrArg (fun a => Table.get 0 (Alerts.counters a) k) (by simp)
  constructor
  · have count := readCounter_heldStage f (faulty (headRec s f.head).burstFloor f) (learned arrival f s)
      (c := .heldFrames) (by decide)
    have stands : readCounter (learned arrival f s) 20 = readCounter s 20 := found.counter_eq (c := .heldFrames) (by decide)
    refine (readCounter_forwarded (c := .heldFrames) (by decide) arrival f bytes s).trans ((classed _).trans (count.trans ?_))
    rw [Laws.readCounter_bump, if_pos rfl]
    exact congrArg (saturated · 1) stands
  · have count := readCounter_heldStage f (faulty (headRec s f.head).burstFloor f) (learned arrival f s)
      (c := .saturatedFrames) (by decide)
    refine (readCounter_forwarded (c := .saturatedFrames) (by decide) arrival f bytes s).trans ((classed _).trans (count.trans ?_))
    rw [Laws.readCounter_bump, if_neg (by decide)]
    exact found.counter_eq (by decide)

/-- A demodulated frame is counted where its clamp acts. -/
theorem handleWedge_counts_saturated (table : f.index = true → DefectsHeld s) (arrival : Nat) (bytes : Frame) (fine : ¬Held s f)
    {ec eOut : Int} (error : unclampedError (computedAgainst s f) f = ec) (clamped : clampOutput ec = eOut) :
    readCounter (handleWedge arrival f bytes s) 21 =
      if eOut = ec then readCounter s 21 else saturated (readCounter s 21) 1 := by
  have found : readCounter (learned arrival f s) 21 = readCounter s 21 :=
    (learned_before arrival f s).counter_eq (c := .saturatedFrames) (by decide)
  have classed : readCounter (classed arrival f s).1 21 =
      readCounter (counted f (facts arrival f s) ec (learned arrival f s)) 21 := by
    rw [classed_demodulated table arrival fine, demodulatedStage_eq, error]
    exact congrArg (fun a => Table.get 0 (Alerts.counters a) 21) (by simp)
  have monitored : readCounter (counted f (facts arrival f s) ec (learned arrival f s)) 21 =
      readCounter (storeDemodulated ec f (learned arrival f s)) 21 := by
    unfold Samplings.counted
    split
    · rfl
    · exact (monitorCount_carried _ _ _ _).counter_eq (c := .saturatedFrames) (by decide)
  refine (readCounter_forwarded (c := .saturatedFrames) (by decide) arrival f bytes s).trans
    (classed.trans (monitored.trans ?_))
  rw [← found, ← clamped]
  unfold storeDemodulated
  by_cases same : clampOutput ec = ec
  · rw [if_neg (not_not.mpr same), if_pos same]
    rfl
  · rw [if_pos same, if_neg same]
    exact (Laws.readCounter_bump .saturatedFrames 21 _).trans (if_pos (by rfl))

/-! ### What every eligible frame leaves -/

theorem handleWedge_records (arrival : Nat) (f : WedgeRead) (bytes : Frame) (s : State) :
    (handleWedge arrival f bytes s).headRecs = (learned arrival f s).headRecs ∧
      (handleWedge arrival f bytes s).runout = (learned arrival f s).runout ∧
      (handleWedge arrival f bytes s).activeHead = some f.head := by
  have active := (learned_same arrival f s).2.2.2.2.1
  rw [handleWedge_eq, ← active]
  simp [classed]

/-- Beyond its head an eligible frame leaves contexts, settings, linearization, link, steps, the mask and other heads' records. -/
theorem handleWedge_leaves (table : f.index = true → DefectsHeld s) (arrival : Nat) (bytes : Frame) :
    (∀ k, k ≠ f.head → headContext (handleWedge arrival f bytes s) k = headContext s k) ∧
      (handleWedge arrival f bytes s).pending = s.pending ∧ (handleWedge arrival f bytes s).link = s.link ∧
      (handleWedge arrival f bytes s).settings = s.settings ∧ (handleWedge arrival f bytes s).linTab = s.linTab ∧
      (handleWedge arrival f bytes s).steps = s.steps ∧ (handleWedge arrival f bytes s).alerts.mask = s.alerts.mask ∧
      ∀ k, k ≠ f.head → headRec (handleWedge arrival f bytes s) k = headRec s k := by
  obtain ⟨pending, link, settings, lin, steps⟩ := Laws.handleWedge_frame arrival f bytes s
  refine ⟨fun k other => handleWedge_context_other table arrival bytes other, pending, link, settings, lin, steps,
    (handleWedge_carried arrival f bytes s).mask, fun k other => ?_⟩
  rw [headRec, (handleWedge_records arrival f bytes s).1]
  exact (learned_same arrival f s).2.2.2.2.2.2.2 k other

/-! ### A frame without INDEX -/

theorem ruled_event (arrival : Nat) (f : WedgeRead) (s : State) (plain : f.index = false) :
    (ruled arrival f s).2.event = false := by
  rw [ruled, clockStage_result, plain, Bool.and_false]

/-- A frame without INDEX passes stages 3 to 5. -/
theorem learned_plain (arrival : Nat) (s : State) (plain : f.index = false) :
    learned arrival f s = (ruled arrival f s).1 := by
  have none : applied arrival f s = ((ruled arrival f s).1, none) := by
    unfold applied applyStage
    rw [plain]
    rfl
  have planned : planned arrival f s = (ruled arrival f s).1 := by
    rw [Traffic.planned, none, ruled_event arrival f s plain]
    rfl
  rw [learned, planned, ruled_event arrival f s plain, none]
  unfold engineStage
  split <;> rfl

theorem learned_defects_plain (arrival : Nat) (s : State) (plain : f.index = false) : (learned arrival f s).defects = s.defects := by
  have found : (contextFound f s).defects = s.defects := by simp [contextFound]
  have aged := DefectTable.clockStage_defects arrival f.head f.wedge f.index (contextFound f s)
  rw [if_neg (by rw [show (clockStage arrival f.head f.wedge f.index (contextFound f s)).2.event = false from
    ruled_event arrival f s plain]; decide), found] at aged
  rw [learned_plain arrival s plain]
  exact aged

/-- Its tables stand. -/
theorem handleWedge_plain (arrival : Nat) (bytes : Frame) (s : State) (plain : f.index = false) :
    (handleWedge arrival f bytes s).headRecs = s.headRecs ∧ (handleWedge arrival f bytes s).runout = s.runout := by
  obtain ⟨recs, runout, -⟩ := handleWedge_records arrival f bytes s
  obtain ⟨entries, records, -⟩ := ruled_same arrival f s
  rw [recs, runout, learned_plain arrival s plain]
  exact ⟨records, entries⟩

theorem handleWedge_defects (arrival : Nat) (f : WedgeRead) (bytes : Frame) (s : State) :
    (handleWedge arrival f bytes s).defects = (classed arrival f s).1.defects := by
  rw [handleWedge_eq]
  simp

/-- Stage 6 of a frame that is no hit leaves the defects, and counts and raises nothing of a hit. -/
theorem frameStage_unhit {k : FrameFacts}
    (unhit : faulty (headRec s f.head).burstFloor f = false ∨ (headRec s f.head).defectLearn = false) :
    (frameStage f k s).1.defects = s.defects ∧
      Carried { demodulates with counters := .heldFrames :: demodulates.counters } s (frameStage f k s).1 := by
  unfold frameStage
  dsimp only
  split
  · have held : heldStage f (faulty (headRec s f.head).burstFloor f) s = bump .heldFrames s :=
      if_neg (Bool.not_eq_true _ ▸ (Bool.and_eq_false_iff.mpr unhit))
    rw [held]
    exact ⟨by simp, (counted_bump (c := .heldFrames) s (by decide)).andRest⟩
  · next ec _ =>
    refine ⟨?_, ((demodulatedStage_carried f k ec s).mono (by decide)).andRest⟩
    rw [demodulatedStage_eq]
    unfold Samplings.counted
    split <;> simp

theorem unhit_learned (arrival : Nat)
    (unhit : faulty (headRec s f.head).burstFloor f = false ∨ (headRec s f.head).defectLearn = false) :
    faulty (headRec (learned arrival f s) f.head).burstFloor f = false ∨
      (headRec (learned arrival f s) f.head).defectLearn = false := by
  obtain ⟨-, floor, -, -, learns⟩ := (learned_same arrival f s).2.2.2.2.2.2.controls
  rw [floor, learns]
  exact unhit

/-- Learning and plan at a frame without INDEX (R50, R73, R83). -/
theorem handleWedge_fed (arrival : Nat) (bytes : Frame) (s : State) (plain : f.index = false) :
    (handleWedge arrival f bytes s).engine = sampledEngine f.wedge (unclampedError (computedAgainst s f) f)
        (boundTo s f.head && sampleable arrival f s (handleWedge arrival f bytes s)) (cellLimit s) (engineFound arrival f s) ∧
      (handleWedge arrival f bytes s).plan =
        fedPlan arrival f s (handleWedge arrival f bytes s) (planFound arrival f s) := by
  have table : f.index = true → DefectsHeld s := fun index => absurd index (by rw [plain]; decide)
  obtain ⟨binding, params, -⟩ := ruled_engine_fields arrival f s
  have found := learned_plain arrival s plain
  have bound : boundTo (learned arrival f s) f.head = boundTo s f.head := by rw [found]; exact boundTo_congr binding f.head
  have limit : cellLimit (learned arrival f s) = cellLimit s := by rw [found, cellLimit, cellLimit, params]
  refine ⟨?_, ?_⟩
  · rw [handleWedge_sampled table arrival bytes, bound, limit, found, ruled_engine]
  · rw [handleWedge_plan table arrival bytes, found, ruled_plan]

/-- Settles O17: stage 6 of a held frame, with what stages 1 to 5 leave. -/
theorem heldWedgeKeepsTheHeldValue : Obligations.HeldWedgeKeepsTheHeldValue := by
  intro s arrival f r fault arrives eligible table held
  obtain ⟨others, leaves⟩ := handleWedge_leaves table arrival f.bytes
  obtain ⟨count, clamps⟩ := handleWedge_counts_held table arrival f.bytes held
  obtain ⟨-, -, active⟩ := handleWedge_records arrival r f.bytes s
  obtain ⟨pending, link, settings, lin, steps, mask, records⟩ := leaves
  refine ⟨handleWedge arrival r f.bytes s, by rw [exec_arrived arrives]; exact congrArg _ (if_pos eligible),
    handleWedge_context_held table arrival f.bytes held, others, active, count, clamps, pending, link, settings, lin, steps, mask,
    records, fun plain => ?_⟩
  obtain ⟨recs, runout⟩ := handleWedge_plain arrival f.bytes s plain
  obtain ⟨engine, plan⟩ := handleWedge_fed arrival f.bytes s plain
  refine ⟨recs, runout, fun unhit => ?_, ?_, plan⟩
  · rw [handleWedge_defects, classed, (frameStage_unhit (unhit_learned arrival unhit)).1, learned_defects_plain arrival s plain]
  · rw [engine, sampledEngine, if_neg (by simp [sampleable, measurable_held held])]

/-- Settles O16: stage 6 of a demodulated frame, with what stages 1 to 5 leave. -/
theorem demodulatedWedgeUpdatesItsHead : Obligations.DemodulatedWedgeUpdatesItsHead := by
  intro s arrival f r c ec eOut m e arrives eligible table unknown clear
  have fine : ¬Held s r := by
    rintro (known | fault)
    · rw [unknown] at known
      cases known
    · rw [clear] at fault
      cases fault
  obtain ⟨others, leaves⟩ := handleWedge_leaves table arrival f.bytes
  obtain ⟨pending, link, settings, lin, steps, mask, records⟩ := leaves
  obtain ⟨-, -, active⟩ := handleWedge_records arrival r f.bytes s
  have clamped : clampOutput ec = eOut := clampOutput_eq ec
  refine ⟨handleWedge arrival r f.bytes s, by rw [exec_arrived arrives]; exact congrArg _ (if_pos eligible),
    handleWedge_context_demodulated table arrival f.bytes fine clamped rfl, others, active,
    handleWedge_counts_saturated table arrival f.bytes fine rfl clamped, pending, link, settings, lin, steps, mask,
    records, fun plain => ?_⟩
  obtain ⟨recs, runout⟩ := handleWedge_plain arrival f.bytes s plain
  obtain ⟨engine, plan⟩ := handleWedge_fed arrival f.bytes s plain
  obtain ⟨rest, cells⟩ := sampledEngine_cells r.wedge ec
    (boundTo s r.head && sampleable arrival r s (handleWedge arrival r f.bytes s)) (cellLimit s) e
  refine ⟨recs, runout, ?_, ?_, fun k => ?_, plan⟩
  · rw [handleWedge_defects, classed, (frameStage_unhit (unhit_learned arrival (.inl clear))).1, learned_defects_plain arrival s plain]
  · rw [engine]
    exact rest
  · rw [engineCell, engine]
    refine (cells k).trans ?_
    simp only [Bool.and_eq_true, and_assoc]

end Sys2Proof.Eligibles
end

section
/-! PROOFS. Hits on the defect table (R95 to R98, R138, R139). -/

namespace Sys2Proof.Hits

set_option Elab.async false

open Sys2Proof.Machine Sys2Proof.Safety Sys2Proof.Traffic Sys2Proof.Notices Sys2Proof.Frames Sys2Proof.Misses Sys2Proof.Classes
  Sys2Proof.Samplings Sys2Proof.Eligibles Sys2Proof.DefectNotices Sys2Proof.Slots Sys2Proof.DefectTable Sys2Proof.Arrivals

variable {s t : State} {h w k : Nat} {e : DefectEntry} {f : WedgeRead}

/-! ### DEFECT_CONFIRMED (R96, R97) -/

theorem raise_confirmed (s : State) : (raise .defectConfirmed s).alerts.flags.getLsbD 3 = true := by
  simp [Alert.weight, Alert.position]

/-- Notices leave DEFECT_CONFIRMED. -/
theorem offerDefectNotice_confirmed (record : List Byte) (s : State) :
    (offerDefectNotice record s).alerts.flags.getLsbD 3 = s.alerts.flags.getLsbD 3 :=
  (offerDefectNotice_carried record s).flag_eq (a := .defectConfirmed) (by decide)

/-- Raising DEFECT_CONFIRMED notices nothing. -/
theorem notNoticed_confirmed (d : Table DefectEntry) (s : State) : NotNoticed s (raise .defectConfirmed (setDefects d s)) :=
  ⟨⟨rfl, rfl⟩, by simp [Alert.weight, Alert.position], rfl, rfl⟩

/-- A notice offered where nothing of its kind has happened before. -/
theorem noticed_after {u : State} (before : NotNoticed s u) (busy : u.out.sending.isSome = true)
    (stamp : u.clock.stamp = s.clock.stamp) (record : List Byte) :
    Noticed s.clock.stamp record s (offerDefectNotice record u) := by
  rw [← stamp]
  exact noticed_within (noticed_offer busy record).1 before (notNoticed_refl _)

/-! ### A hit on an entry (R96) -/

/-- The hit confirms the entry. -/
def Confirms (threshold : Nat) (e : DefectEntry) : Prop := e.state = .suspect ∧ threshold ≤ min (e.hits + 1) 15

theorem confirms_iff {threshold : Nat} :
    e.state = .suspect ∧ (hitEntry threshold e).state = .confirmed ↔ Confirms threshold e := by
  unfold Confirms hitEntry
  dsimp only
  constructor
  · rintro ⟨suspect, confirmed⟩
    split at confirmed
    · next both => exact both
    · rw [suspect] at confirmed
      cases confirmed
  · intro both
    rw [if_pos both]
    exact ⟨both.1, rfl⟩

theorem hitExisting_confirms (k : Nat) (confirms : Confirms s.settings.confirmThreshold e)
    (busy : s.out.sending.isSome = true) : (hitExisting k e s).alerts.flags.getLsbD 3 = true ∧
      Noticed s.clock.stamp (defectRecord 2 e.head e.wedge k 3 (min (e.hits + 1) 15) 0) s (hitExisting k e s) := by
  unfold hitExisting
  dsimp only
  rw [if_pos (confirms_iff.mpr confirms)]
  refine ⟨?_, ?_⟩
  · rw [offerDefectNotice_confirmed]
    exact raise_confirmed _
  · exact noticed_after (notNoticed_confirmed (Table.put s.defects k (hitEntry s.settings.confirmThreshold e)) s) busy rfl _

theorem hitExisting_quiet (k : Nat) (stays : ¬Confirms s.settings.confirmThreshold e) :
    hitExisting k e s = setDefects (Table.put s.defects k (hitEntry s.settings.confirmThreshold e)) s :=
  if_neg (mt confirms_iff.mp stays)

/-! ### A new entry (R97) -/

/-- The record of a new entry's notice. -/
def madeRecord (threshold h w k : Nat) : List Byte :=
  if threshold ≤ 1 then defectRecord 2 h w k 3 1 0 else defectRecord 1 h w k 2 1 0

/-- The new entry in its slot. -/
def placed (k h w : Nat) (s : State) : State :=
  setDefects (Table.put s.defects k (freshEntry s.settings.confirmThreshold h w)) s

theorem createByHit_eq (k h w : Nat) (s : State) : createByHit k h w s =
    offerDefectNotice (madeRecord s.settings.confirmThreshold h w k)
      (if s.settings.confirmThreshold ≤ 1 then raise .defectConfirmed (placed k h w s) else placed k h w s) := by
  unfold createByHit madeRecord placed freshEntry
  dsimp only
  split <;> rfl

theorem createByHit_noticed (k h w : Nat) (busy : s.out.sending.isSome = true) :
    Noticed s.clock.stamp (madeRecord s.settings.confirmThreshold h w k) s (createByHit k h w s) := by
  rw [createByHit_eq]
  split
  · exact noticed_after (s := s) (u := raise .defectConfirmed (placed k h w s)) (notNoticed_confirmed _ s) busy rfl _
  · exact noticed_after (s := s) (u := placed k h w s) ⟨⟨rfl, rfl⟩, rfl, rfl, rfl⟩ busy rfl _

theorem createByHit_confirmed (k h w : Nat) (s : State) : (createByHit k h w s).alerts.flags.getLsbD 3 =
    (s.alerts.flags.getLsbD 3 || decide (s.settings.confirmThreshold ≤ 1)) := by
  rw [createByHit_eq, offerDefectNotice_confirmed]
  split
  · next low =>
    rw [raise_confirmed]
    simp [low]
  · next high =>
    simp [high, placed]

/-! ### A hit, case by case -/

section
variable (s h w)

theorem recordHit_found (found : findDefect s.defects h w = some (k, e)) : recordHit h w s = hitExisting k e s := by
  simp only [recordHit, found]

theorem recordHit_empty (unlisted : Unlisted s.defects h w) (empty : LowestEmpty s.defects k) :
    recordHit h w s = createByHit k h w s := by
  simp only [recordHit, unlisted_iff.mp unlisted, lowestEmpty_iff.mp empty]

theorem recordHit_evicts (form : Table.wf 256 s.defects = true) (unlisted : Unlisted s.defects h w) (full : Full s.defects)
    (oldest : Oldest s.defects k e) : recordHit h w s = createByHit k h w (evict (k, e) s) := by
  simp only [recordHit, unlisted_iff.mp unlisted, full_iff.mp full, evictionVictim_of_oldest form oldest]

theorem recordHit_drops (unlisted : Unlisted s.defects h w) (full : Full s.defects)
    (none : ∀ c ∈ s.defects, c.2.state ≠ .suspect) : recordHit h w s = raise .defectFull (bump .defectDrop s) := by
  simp only [recordHit, unlisted_iff.mp unlisted, full_iff.mp full, evictionVictim_none.mpr none]
end

/-! ### What stands around the hit of a frame without INDEX -/

/-- What a hit leaves alone in a step: defects, settings, stamp; and it offers no notice and raises neither alert. -/
structure Around (s t : State) : Prop where
  defects : t.defects = s.defects
  threshold : t.settings.confirmThreshold = s.settings.confirmThreshold
  confirmed : t.alerts.flags.getLsbD 3 = s.alerts.flags.getLsbD 3
  full : t.alerts.flags.getLsbD 4 = s.alerts.flags.getLsbD 4
  drops : readCounter t 18 = readCounter s 18
  quiet : s.out.sending.isSome = true → NotNoticed s t ∧ t.out.sending.isSome = true

theorem around_of_carried {F : Footprint} (h : Carried F s t) (defects : t.defects = s.defects)
    (quiet : Counter.reportDrop ∉ F.counters ∧ Counter.budgetDrop ∉ F.counters ∧ Alert.reportOverflow ∉ F.alerts ∧
      F.report = false ∧ F.budget = false)
    (others : Alert.defectConfirmed ∉ F.alerts ∧ Alert.defectFull ∉ F.alerts ∧ Counter.defectDrop ∉ F.counters) : Around s t where
  defects := defects
  threshold := by rw [h.settings]
  confirmed := h.flag_eq others.1
  full := h.flag_eq others.2.1
  drops := h.counter_eq others.2.2
  quiet busy := by
    obtain ⟨g, sending⟩ := Option.isSome_iff_exists.mp busy
    exact ⟨notNoticed_of_carried h busy quiet, by rw [h.sending sending]; rfl⟩

/-- What a frame without INDEX does before stage 6. -/
def plain : Footprint := { counters := [.windowMiss, .slips, .passRestarts], timer := true }

theorem clockStage_eq (arrival : Nat) (f : WedgeRead) (s : State) : (clockStage arrival f.head f.wedge f.index s).1 =
    if (ruleStage arrival f.wedge f.index s).2.event then revolutionEvent f.head (ruleStage arrival f.wedge f.index s).1
    else (ruleStage arrival f.wedge f.index s).1 := rfl

theorem ruled_plain (arrival : Nat) (s : State) (index : f.index = false) : Carried plain s (ruled arrival f s).1 := by
  have found := (contextFound_carried f s).mono (G := plain) (by decide)
  have staged : (ruled arrival f s).1 = (ruleStage arrival f.wedge f.index (contextFound f s)).1 := by
    have event : (ruleStage arrival f.wedge f.index (contextFound f s)).2.event = false := ruled_event arrival f s index
    rw [ruled, clockStage_eq]
    exact if_neg (by rw [event]; decide)
  rw [staged, index]
  refine found.trans ?_
  unfold ruleStage
  split
  · refine ((applyRuling_carried _ arrival f.wedge _).mono ?_).fromRest
    cases ruleFrame (contextFound f s).clock arrival f.wedge false <;> decide
  · unfold acquireFrame
    split
    · exact .rest rfl rfl rfl rfl
    · exact .rest rfl rfl rfl rfl
    · exact .rest rfl rfl rfl rfl

theorem ruled_stamp (arrival : Nat) (s : State) (index : f.index = false) : (ruled arrival f s).1.clock.stamp = s.clock.stamp := by
  have clock : (contextFound f s).clock = s.clock := by simp [contextFound]
  rw [ruled, clockStage_clock, index, Bool.and_false, ruleStage_clock, clock]
  exact clockAfter_stamp _ _ _ _ _

/-- A FAULT frame without INDEX, where its head learns defects, is one hit. -/
theorem handleWedge_hits (arrival : Nat) (bytes : Frame) (index : f.index = false)
    (fault : faulty (headRec s f.head).burstFloor f = true) (learns : (headRec s f.head).defectLearn = true) :
    ∃ u, Around s u ∧ u.clock.stamp = s.clock.stamp ∧
      Around (recordHit f.head f.wedge u) (handleWedge arrival f bytes s) := by
  have table : f.index = true → DefectsHeld s := fun e => absurd e (by rw [index]; decide)
  have held : Held s f := .inr fault
  have found := learned_plain arrival s index
  have enabled : (headRec (learned arrival f s) f.head).defectLearn = true :=
    (learned_same arrival f s).2.2.2.2.2.2.controls.2.2.2.2.trans learns
  have hit : heldState arrival f s = recordHit f.head f.wedge (bump .heldFrames (learned arrival f s)) := by
    rw [heldState, heldStage, fault, Bool.true_and]
    exact if_pos enabled
  have before : Carried { plain with counters := .heldFrames :: plain.counters } s (bump .heldFrames (learned arrival f s)) := by
    rw [found]
    exact ((ruled_plain arrival s index).mono (by decide)).trans (counted_bump _ (by decide))
  have stamp : (bump .heldFrames (learned arrival f s)).clock.stamp = s.clock.stamp := by
    rw [found]
    exact ruled_stamp arrival s index
  have after : Carried loops (heldState arrival f s) (handleWedge arrival f bytes s) := by
    rw [handleWedge_eq, classed_held table arrival held]
    exact (Carried.rest (by simp) (by simp) (by simp) (by simp)).trans (forward_carried bytes _ _)
  refine ⟨bump .heldFrames (learned arrival f s),
    around_of_carried before (learned_defects_plain arrival s index) (by decide) (by decide), stamp, ?_⟩
  rw [← hit]
  refine around_of_carried after ?_ (by decide) (by decide)
  rw [handleWedge_defects, classed_held table arrival held]
  simp

/-- What holds of an elementary hit holds of the frame. -/
theorem Around.noticed {u v : State} {record : List Byte} (before : Around s u) (after : Around v t)
    (stamp : u.clock.stamp = s.clock.stamp) (busy : s.out.sending.isSome = true) (sending : v.out.sending.isSome = true)
    (hit : Noticed u.clock.stamp record u v) : Noticed s.clock.stamp record s t := by
  rw [← stamp]
  exact noticed_within hit (before.quiet busy).1 (after.quiet sending).1

theorem recordHit_sending (h w : Nat) (busy : s.out.sending.isSome = true) : (recordHit h w s).out.sending.isSome = true := by
  obtain ⟨g, sending⟩ := Option.isSome_iff_exists.mp busy
  rw [(recordHit_carried h w s).sending sending]
  rfl

/-- Settles O37: the four places a hit can fall on, between stages that notice nothing. -/
theorem faultFramesHitTheDefectTable : Obligations.FaultFramesHitTheDefectTable := by
  intro s arrival f r t₀ fresh made arrives eligible index fault learns form
  obtain ⟨u, before, stamp, after⟩ := handleWedge_hits arrival f.bytes index fault learns
  refine ⟨handleWedge arrival r f.bytes s, by rw [exec_arrived arrives]; exact congrArg _ (if_pos eligible), ?_⟩
  generalize handleWedge arrival r f.bytes s = t at after ⊢
  have defects := before.defects
  have threshold : u.settings.confirmThreshold = t₀ := before.threshold
  have busyHit : s.out.sending.isSome = true → (recordHit r.head r.wedge u).out.sending.isSome = true := fun busy =>
    recordHit_sending _ _ (before.quiet busy).2
  rw [← defects] at form
  refine ⟨?_, fun k unlisted empty => ?_, fun k e unlisted full oldest => ?_,
    fun unlisted full none => ?_⟩
  · intro k e found confirmed
    rw [← defects] at found
    have hit := recordHit_found u r.head r.wedge found
    have table : (hitExisting k e u).defects = Table.put u.defects k (hitEntry t₀ e) := by
      rw [hitExisting_defects, threshold]
    refine ⟨?_, fun busy => ⟨fun confirms => ?_, fun stays => ?_⟩⟩
    · rw [after.defects, hit, table, ← defects]
      exact onlySlot_put _ _ _
    · obtain ⟨-, head, wedge⟩ := findDefect_some found
      obtain ⟨flag, noticed⟩ := hitExisting_confirms k (by rw [threshold]; exact confirms) (before.quiet busy).2
      rw [← hit] at flag noticed
      rw [head, wedge] at noticed
      exact ⟨after.confirmed.trans flag, before.noticed after stamp busy (busyHit busy) noticed⟩
    · have quiet := hitExisting_quiet (s := u) k (by rw [threshold]; exact stays)
      rw [← hit] at quiet
      refine ⟨after.confirmed.trans ?_, notNoticed_trans (before.quiet busy).1
        (notNoticed_trans ?_ (after.quiet (busyHit busy)).1)⟩
      · rw [quiet, ← before.confirmed]
        rfl
      · rw [quiet]
        exact ⟨⟨rfl, rfl⟩, rfl, rfl, rfl⟩
  · rw [← defects] at unlisted empty
    have hit := recordHit_empty u r.head r.wedge unlisted empty
    refine ⟨?_, fun busy => ⟨before.noticed after stamp busy (busyHit busy) ?_, ?_⟩⟩
    · rw [after.defects, hit, createByHit_defects, threshold, ← defects]
      exact onlySlot_put _ _ _
    · have noticed := createByHit_noticed k r.head r.wedge (before.quiet busy).2
      rw [threshold] at noticed
      rw [hit]
      exact noticed
    · rw [after.confirmed, hit, createByHit_confirmed, threshold, before.confirmed]
  · rw [← defects] at unlisted full oldest
    have hit := recordHit_evicts u r.head r.wedge form unlisted full oldest
    have evicted := evict_state k e u
    have table : (evict (k, e) u).defects = Table.drop u.defects k := evict_defects _ _
    have limit : (evict (k, e) u).settings.confirmThreshold = t₀ := by rw [evicted, ← threshold]
    refine ⟨?_, fun busy => ⟨⟨evict (k, e) u, ?_, ?_⟩, ?_⟩⟩
    · rw [after.defects, hit, createByHit_defects, limit, table, ← defects]
      exact onlySlot_put_drop _ _ _
    · have noticed := noticed_after (s := u) (u := setDefects (Table.drop u.defects k) u) ⟨⟨rfl, rfl⟩, rfl, rfl, rfl⟩
        (before.quiet busy).2 rfl (defectNotice .evicted k e)
      rw [← stamp]
      exact noticed_within noticed (before.quiet busy).1 (notNoticed_refl _)
    · obtain ⟨g, sending⟩ := Option.isSome_iff_exists.mp (before.quiet busy).2
      have busyEvict : (evict (k, e) u).out.sending.isSome = true := by
        rw [(evict_carried (k, e) u).sending sending]
        rfl
      have noticed := createByHit_noticed k r.head r.wedge busyEvict
      rw [limit, ← hit, show (evict (k, e) u).clock = u.clock by rw [evicted], stamp] at noticed
      exact noticed_within noticed (notNoticed_refl _) (after.quiet (busyHit busy)).1
    · have flag : (evict (k, e) u).alerts.flags.getLsbD 3 = u.alerts.flags.getLsbD 3 := offerDefectNotice_confirmed _ _
      rw [after.confirmed, hit, createByHit_confirmed, limit, flag, before.confirmed]
  · rw [← defects] at unlisted full none
    have hit := recordHit_drops u r.head r.wedge unlisted full none
    have flags : ∀ a : Alert, (recordHit r.head r.wedge u).alerts.flags.getLsbD a.position =
        (u.alerts.flags.getLsbD a.position || decide (a = .defectFull)) := fun a => by
      rw [hit]
      cases a <;> simp [Alert.weight, Alert.position]
    refine ⟨?_, after.drops.trans ?_, after.full.trans ?_, fun busy => ⟨?_, after.confirmed.trans ?_⟩⟩
    · rw [after.defects, hit, ← defects]
      rfl
    · rw [hit, ← before.drops]
      exact (readCounter_drop u .defectDrop 18).trans (if_pos (by rfl))
    · exact (flags .defectFull).trans (Bool.or_true _)
    · refine notNoticed_trans (before.quiet busy).1 (notNoticed_trans ⟨?_, ?_, ?_, ?_⟩ (after.quiet (busyHit busy)).1)
      · rw [hit]
        exact ⟨rfl, rfl⟩
      · exact (flags .reportOverflow).trans (Bool.or_false _)
      · rw [hit]
        exact (readCounter_drop u .defectDrop 15).trans (if_neg (by decide))
      · rw [hit]
        exact (readCounter_drop u .defectDrop 17).trans (if_neg (by decide))
    · exact ((flags .defectConfirmed).trans (Bool.or_false _)).trans before.confirmed

end Sys2Proof.Hits
end

section
/-! PROOFS. What a completed revolution event does to the report budget and the defects of its head (R72, R95, R99, R138 to R140). -/

namespace Sys2Proof.Aging

set_option Elab.async false

open Sys2Proof.Machine Sys2Proof.Safety Sys2Proof.Traffic Sys2Proof.Notices Sys2Proof.Frames Sys2Proof.Misses Sys2Proof.Classes
  Sys2Proof.Eligibles Sys2Proof.DefectNotices Sys2Proof.DefectTable Sys2Proof.Arrivals Sys2Proof.Forwards Sys2Proof.Outcomes

variable {s t : State} {f : WedgeRead} {h k : Nat}

/-! ### Notices offered one after another (R139) -/

/-- The budget after `n` tests. -/
def spentBy (n : Nat) : Budget → Budget
  | .unlimited => .unlimited
  | .left m => .left (m - n)

/-- How many of `n` notices a budget refuses. -/
def refusals (n : Nat) : Budget → Nat
  | .unlimited => 0
  | .left m => n - m

theorem spentBy_succ (n : Nat) (b : Budget) : spentBy n (spent b) = spentBy (n + 1) b := by
  cases b with
  | unlimited => rfl
  | left m =>
    simp only [spent, spentBy]
    congr 1
    omega

theorem refusals_succ (n : Nat) (b : Budget) : refusals 1 b + refusals n (spent b) = refusals (n + 1) b := by
  cases b with
  | unlimited => rfl
  | left m =>
    simp only [spent, refusals]
    omega

/-- A counter after `n` events, where none leaves it as it is. -/
def counting (n c : Nat) : Nat := if n = 0 then c else saturated c n

theorem counting_counting (m n c : Nat) : counting n (counting m c) = counting (m + n) c := by
  unfold counting
  by_cases first : m = 0
  · rw [if_pos first, first, Nat.zero_add]
  · rw [if_neg first, if_neg (show ¬m + n = 0 by omega)]
    by_cases second : n = 0
    · rw [if_pos second, second, Nat.add_zero]
    · rw [if_neg second, saturated_saturated]

/-- One notice: the budget spent, a refusal counted. -/
theorem offerDefectNotice_spends (record : List Byte) (s : State) :
    (offerDefectNotice record s).out.budget = spent s.out.budget ∧
      readCounter (offerDefectNotice record s) 17 = counting (refusals 1 s.out.budget) (readCounter s 17) := by
  by_cases refused : s.out.budget = .left 0
  · rw [Laws.offerDefectNotice_refused record s refused, refused]
    exact ⟨refused, (readCounter_drop s .budgetDrop 17).trans (if_pos (by rfl))⟩
  · have carried := offerReport_carried 3 record { s with out := { s.out with budget := spent s.out.budget } }
    have none : refusals 1 s.out.budget = 0 := by
      cases budget : s.out.budget with
      | unlimited => rfl
      | left m =>
        have some : m ≠ 0 := fun none => refused (by rw [budget, none])
        simp only [refusals]
        omega
    rw [offerDefectNotice_passed refused, none]
    exact ⟨carried.budget_eq rfl, carried.counter_eq (c := .budgetDrop) (by decide)⟩

section
variable {α : Type} (record : α → List Byte)

/-- Notices offered in turn. -/
def offerNotices (l : List α) (s : State) : State := l.foldl (fun s c => offerDefectNotice (record c) s) s

theorem offerNotices_carried (l : List α) (s : State) : Carried notices s (offerNotices record l s) := by
  induction l generalizing s with
  | nil => exact .refl s
  | cons c l ih => exact (offerDefectNotice_carried _ s).trans (ih _)

/-- The budget after several notices, and the refusals counted. -/
theorem offerNotices_spend (l : List α) (s : State) :
    (offerNotices record l s).out.budget = spentBy l.length s.out.budget ∧
      readCounter (offerNotices record l s) 17 = counting (refusals l.length s.out.budget) (readCounter s 17) := by
  induction l generalizing s with
  | nil =>
    cases budget : s.out.budget with
    | unlimited => exact ⟨budget, rfl⟩
    | left m =>
      refine ⟨budget, ?_⟩
      rw [List.length_nil, refusals, Nat.zero_sub]
      rfl
  | cons c l ih =>
    obtain ⟨budget, counter⟩ := ih (offerDefectNotice (record c) s)
    obtain ⟨spends, counts⟩ := offerDefectNotice_spends (record c) s
    rw [offerNotices, List.foldl_cons, ← offerNotices, budget, counter, List.length_cons, spends, counts, spentBy_succ,
      counting_counting, refusals_succ]
    exact ⟨rfl, rfl⟩

/-- A budget of none refuses every notice. -/
theorem offerNotices_refused (l : List α) {s : State} (none : s.out.budget = .left 0) :
    (offerNotices record l s).out.report = s.out.report := by
  induction l generalizing s with
  | nil => rfl
  | cons c l ih =>
    rw [offerNotices, List.foldl_cons, ← offerNotices, Laws.offerDefectNotice_refused _ s none]
    exact ih none

/-- The notices that enter the REPORT queue: the first ones, as many as the budget passes. -/
theorem offerNotices_enter (l : List α) {s : State} (busy : s.out.sending.isSome = true)
    (room : s.out.report.length + (l.length - refusals l.length s.out.budget) ≤ 32) :
    (offerNotices record l s).out.report = s.out.report ++
      (l.map fun c => reportBytes 3 s.clock.stamp (record c)).take (l.length - refusals l.length s.out.budget) := by
  induction l generalizing s with
  | nil => simp [offerNotices]
  | cons c l ih =>
    by_cases refused : s.out.budget = .left 0
    · rw [offerNotices_refused record _ refused, refused, refusals, Nat.sub_zero, Nat.sub_self, List.take_zero, List.append_nil]
    · have first : refusals 1 s.out.budget = 0 := by
        cases budget : s.out.budget with
        | unlimited => rfl
        | left m =>
          have some : m ≠ 0 := fun none => refused (by rw [budget, none])
          simp only [refusals]
          omega
      have few : refusals l.length (spent s.out.budget) ≤ l.length := by
        cases spent s.out.budget <;> simp [refusals]
      rw [List.length_cons, ← refusals_succ, first, Nat.zero_add] at room ⊢
      have length : l.length + 1 - refusals l.length (spent s.out.budget) =
          l.length - refusals l.length (spent s.out.budget) + 1 := by omega
      rw [length] at room ⊢
      obtain ⟨noticed, -⟩ := noticed_offer busy (record c)
      have report := noticed.admitted refused (by omega)
      have budget := (offerDefectNotice_spends (record c) s).1
      have stamp : (offerDefectNotice (record c) s).clock = s.clock := by rw [offerDefectNotice_state]
      have busy' : (offerDefectNotice (record c) s).out.sending.isSome = true := by
        obtain ⟨g, sending⟩ := Option.isSome_iff_exists.mp busy
        rw [(offerDefectNotice_carried (record c) s).sending sending]
        rfl
      have entered := ih busy' (by
        rw [report, budget, List.length_append, List.length_singleton]
        omega)
      rw [offerNotices, List.foldl_cons, ← offerNotices, entered, report, budget, stamp, List.map_cons, List.take_succ_cons,
        List.append_assoc, List.singleton_append]
end

/-! ### The aged table (R99) -/

/-- Entries changed in their slots or taken out, in a table of rising slots. -/
theorem find?_filterMap {α : Type} (g : α → Option α) {t : Table α} {lo : Nat} (rising : Table.rising lo t = true) (k : Nat) :
    Table.find? (t.filterMap fun c => (g c.2).map (Prod.mk c.1)) k = (Table.find? t k).bind g := by
  induction t generalizing lo with
  | nil => rfl
  | cons c t ih =>
    obtain ⟨j, u⟩ := c
    simp only [Table.rising, Bool.and_eq_true, decide_eq_true_eq] at rising
    have rest := ih rising.2
    rw [Laws.find?_cons]
    cases kept : g u with
    | some v =>
      rw [List.filterMap_cons_some (b := (j, v)) (by simp [kept]), Laws.find?_cons, rest]
      by_cases same : k = j
      · rw [if_pos same, if_pos same]
        exact kept.symm
      · rw [if_neg same, if_neg same]
    | none =>
      rw [List.filterMap_cons_none (by simp [kept]), rest]
      split
      · next same =>
        have absent : Table.find? t k = none := by
          rcases found : Table.find? t k with _ | v
          · rfl
          · have above := le_of_rising rising.2 _ (Contexts.mem_of_find? found)
            simp only at above
            omega
        rw [absent]
        exact kept.symm
      · rfl

/-- What aging makes of one entry. -/
def agedSlot (h limit : Nat) (e : DefectEntry) : Option DefectEntry :=
  if e.head = h then (if agesOut limit e then none else some (agedEntry e)) else some e

theorem agedTable_slots (h limit : Nat) (t : Table DefectEntry) :
    agedTable h limit t = t.filterMap fun c => (agedSlot h limit c.2).map (Prod.mk c.1) := by
  unfold agedTable agedSlot
  congr 1
  funext c
  split_ifs <;> rfl

theorem agesOut_iff {limit : Nat} {e : DefectEntry} : agesOut limit e = true ↔
    e.state = .suspect ∧ e.mark = false ∧ limit ≠ 0 ∧ limit ≤ min (e.quiet + 1) 255 := by
  unfold agesOut agedEntry
  by_cases quiet : e.state = .suspect ∧ e.mark = false
  · simp [quiet]
  · rw [if_neg quiet]
    simp only [Bool.and_eq_true, beq_iff_eq, Bool.not_eq_true', bne_iff_ne]
    tauto

/-- The AGED notices name the entries that go, with their last quiet (R99). -/
theorem agedOut_eq (h limit : Nat) (t : Table DefectEntry) : agedOut h limit t =
    (t.filter fun c => decide (c.2.head = h ∧ c.2.state = .suspect ∧ c.2.mark = false ∧ limit ≠ 0 ∧
      limit ≤ min (c.2.quiet + 1) 255)).map fun c => (c.1, { c.2 with quiet := min (c.2.quiet + 1) 255 }) := by
  have same : (fun c : Nat × DefectEntry => c.2.head == h && agesOut limit c.2) = fun c =>
      decide (c.2.head = h ∧ c.2.state = .suspect ∧ c.2.mark = false ∧ limit ≠ 0 ∧ limit ≤ min (c.2.quiet + 1) 255) := by
    funext c
    rw [Bool.eq_iff_iff, Bool.and_eq_true, beq_iff_eq, agesOut_iff, decide_eq_true_eq]
  rw [agedOut, same]
  refine List.map_congr_left fun c mem => ?_
  obtain ⟨-, suspect, unmarked, -⟩ := of_decide_eq_true (List.mem_filter.mp mem).2
  rw [agedEntry, if_pos ⟨suspect, unmarked⟩]

theorem agedSlot_eq (h limit : Nat) (e : DefectEntry) : agedSlot h limit e =
    if e.head ≠ h then some e
    else if e.state = .suspect ∧ e.mark = false then
      if limit ≠ 0 ∧ limit ≤ min (e.quiet + 1) 255 then none else some { e with quiet := min (e.quiet + 1) 255 }
    else some { e with mark := false } := by
  unfold agedSlot agedEntry
  by_cases own : e.head = h
  · rw [if_pos own, if_neg (not_not.mpr own)]
    by_cases quiet : e.state = .suspect ∧ e.mark = false
    · by_cases out : limit ≠ 0 ∧ limit ≤ min (e.quiet + 1) 255
      · rw [if_pos (agesOut_iff.mpr ⟨quiet.1, quiet.2, out⟩), if_pos quiet, if_pos out]
      · rw [if_neg fun e => out (agesOut_iff.mp e).2.2, if_pos quiet, if_pos quiet, if_neg out]
    · have stays := agesOut_iff (limit := limit) (e := e)
      rw [if_neg fun e => quiet ⟨(stays.mp e).1, (stays.mp e).2.1⟩, if_neg quiet, if_neg quiet]
  · rw [if_neg own, if_pos own]

/-! ### The event -/

theorem ageDefects_eq (h : Nat) (s : State) : ageDefects h s =
    offerNotices (fun c => defectNotice .aged c.1 c.2) (agedOut h s.settings.ageLimit s.defects)
      (setDefects (agedTable h s.settings.ageLimit s.defects) s) := rfl

/-- What a frame below W does after its event, where it is no hit. -/
def unhit : Footprint :=
  { counters := [.loopDrop, .reportDrop, .heldFrames, .saturatedFrames, .thinWedges, .stepsFailed]
    alerts := [.offtrack, .reportOverflow, .stepDone, .stepFailed, .planEnd]
    loop := true
    report := true }

theorem handleWedge_unhit (arrival : Nat) (bytes : Frame)
    (fine : faulty (headRec s f.head).burstFloor f = false ∨ (headRec s f.head).defectLearn = false) :
    Carried unhit (ruled arrival f s).1 (handleWedge arrival f bytes s) ∧
      (handleWedge arrival f bytes s).defects = (ruled arrival f s).1.defects := by
  obtain ⟨defects, framed⟩ := frameStage_unhit (k := facts arrival f s) (unhit_learned arrival fine)
  have applied : Carried unhit (ruled arrival f s).1 (applied arrival f s).1 :=
    (applyStage_carried f.head f.index _).mono (by decide)
  have learned : Carried unhit (ruled arrival f s).1 (learned arrival f s) :=
    (applied.andThen (planStage_carried _ _ _ _)).trans (engineStage_carried _ _ _ _)
  have classed : Carried unhit (ruled arrival f s).1 (classed arrival f s).1 := learned.andThen framed
  refine ⟨?_, ?_⟩
  · rw [handleWedge_eq]
    exact (classed.andRest (alerts := by simp)).andThen (forward_carried bytes _ _)
  · rw [handleWedge_defects, Traffic.classed, defects]
    simp [Traffic.learned, planned, Traffic.applied]

theorem passWedge_unhit (below : f.wedge < s.settings.wedges) (arrival : Nat) (bytes : Frame) :
    Carried unhit (passed arrival f s).1 (passWedge arrival f bytes s) ∧
      (passWedge arrival f bytes s).defects = (passed arrival f s).1.defects := by
  have planned : Carried unhit (passed arrival f s).1
      (planStage f.head (passed arrival f s).2.event none (passed arrival f s).1) :=
    (planStage_carried _ _ _ _).mono (by decide)
  rw [passWedge_below below]
  exact ⟨(planned.trans (engineStage_carried _ _ _ _)).andThen (offerLoop_carried bytes _), by simp⟩

/-- A frame below W that is no hit: its event, and what reaches neither defects nor budget. -/
theorem exec_unhit {arrival : Nat} {g : WedgeFrame} (arrives : Arrives arrival g s)
    (below : (readWedge g).wedge < s.settings.wedges)
    (fine : faulty (headRec s (readWedge g).head).burstFloor (readWedge g) = false ∨
      (headRec s (readWedge g).head).defectLearn = false) :
    ∃ t, exec (.wedge arrival g) s = .next t ∧
      Carried unhit (clockStage arrival (readWedge g).head (readWedge g).wedge (readWedge g).index
        (foundBy (readWedge g) s)).1 t ∧
      t.defects = (clockStage arrival (readWedge g).head (readWedge g).wedge (readWedge g).index
        (foundBy (readWedge g) s)).1.defects := by
  rw [exec_arrived arrives]
  refine ⟨_, rfl, ?_⟩
  unfold foundBy
  split
  · exact handleWedge_unhit arrival g.bytes fine
  · exact passWedge_unhit below arrival g.bytes

/-- What a running clock does with a frame before the event. -/
def rulesRunning : Footprint := { counters := [.foreignHead, .windowMiss, .slips, .passRestarts], timer := true }

theorem ruleStage_foundBy (arrival : Nat) (f : WedgeRead) (running : s.clock.state.running = true) :
    Carried rulesRunning s (ruleStage arrival f.wedge f.index (foundBy f s)).1 ∧
      (ruleStage arrival f.wedge f.index (foundBy f s)).1.defects = s.defects ∧
      (ruleStage arrival f.wedge f.index (foundBy f s)).1.clock.stamp = s.clock.stamp := by
  obtain ⟨clock, settings⟩ := foundBy_clock f s
  have found := (foundBy_carried f s).mono (G := rulesRunning) (by decide)
  have defects : (foundBy f s).defects = s.defects := by
    unfold foundBy
    split_ifs <;> simp [contextFound]
  refine ⟨?_, ?_, ?_⟩
  · rw [Rulings.ruleStage_running (by rw [clock]; exact running)]
    refine found.trans (((applyRuling_carried _ arrival f.wedge _).mono ?_).fromRest)
    cases ruleFrame (foundBy f s).clock arrival f.wedge f.index <;> decide
  · rw [← defects]
    simp
  · rw [ruleStage_clock, clockAfter_stamp, clock]

theorem defectRecord_aged (k : Nat) (e : DefectEntry) :
    defectNotice .aged k e = defectRecord 4 e.head e.wedge k 0 e.hits e.quiet := rfl

/-- Settles O38: the refresh of the budget, the aged table, and its notices in turn. -/
theorem revolutionEventsAgeDefects : Obligations.RevolutionEventsAgeDefects := by
  intro s arrival f r limit budget removed notices refused arrives below index state form fine
  have running : s.clock.state.running = true := Departures.running_iff.mpr state
  obtain ⟨t, run, after, table⟩ := exec_unhit arrives below fine
  obtain ⟨before, defects, stamp⟩ := ruleStage_foundBy arrival r running
  have event : (ruleStage arrival r.wedge r.index (foundBy r s)).2.event = true := by
    rw [ruleStage_result, (foundBy_clock r s).1, running, index]
    rfl
  rw [show (clockStage arrival r.head r.wedge r.index (foundBy r s)).1 =
    revolutionEvent r.head (ruleStage arrival r.wedge r.index (foundBy r s)).1 from if_pos event] at after table
  generalize (ruleStage arrival r.wedge r.index (foundBy r s)).1 = u at before defects stamp after table
  have settings : u.settings = s.settings := before.settings
  have aged : ∃ x : State, x.defects = agedTable r.head limit s.defects ∧
      x.out = { u.out with budget := budgetOf budget } ∧ x.alerts = u.alerts ∧ x.clock.stamp = s.clock.stamp + 1 ∧
      revolutionEvent r.head u =
        offerNotices (fun c => defectNotice .aged c.1 c.2) (agedOut r.head limit s.defects) x := by
    refine ⟨setDefects (agedTable r.head u.settings.ageLimit u.defects)
      (refreshBudget (setClock { u.clock with stamp := u.clock.stamp + 1 } u)), ?_, ?_, rfl, ?_, ?_⟩
    · rw [settings, defects]
      rfl
    · show { u.out with budget := budgetOf u.settings.reportLimit } = _
      rw [settings]
    · exact congrArg (· + 1) stamp
    · rw [← defects, show limit = u.settings.ageLimit by rw [settings]]
      rfl
  obtain ⟨x, slots, out, alerts, stampx, event⟩ := aged
  have length : (agedOut r.head limit s.defects).length = removed.length := by rw [agedOut_eq, List.length_map]
  have refusal : refusals removed.length (budgetOf budget) = refused := by
    unfold budgetOf
    by_cases unlimited : budget = 0
    · rw [if_pos unlimited, show refused = 0 from if_pos unlimited]
      rfl
    · rw [if_neg unlimited, show refused = removed.length - budget from if_neg unlimited]
      rfl
  obtain ⟨spent, counts⟩ := offerNotices_spend (fun c : Nat × DefectEntry => defectNotice .aged c.1 c.2)
    (agedOut r.head limit s.defects) x
  have kept : (revolutionEvent r.head u).defects = x.defects := by rw [event]; exact foldl_notice_defects _ _
  rw [← event, length, out] at spent counts
  rw [refusal] at counts
  refine ⟨t, run, fun k => ?_, ?_, ?_, fun busy room => ?_⟩
  · rw [table, kept, slots, agedTable_slots, find?_filterMap _ (Slots.rising_of_wf form)]
    cases Table.find? s.defects k with
    | none => rfl
    | some e => exact agedSlot_eq r.head limit e
  · refine (after.budget_eq rfl).trans (spent.trans ?_)
    show spentBy removed.length (budgetOf budget) = _
    unfold budgetOf
    split <;> rfl
  · have stands : readCounter x 17 = readCounter s 17 := by
      refine Eq.trans ?_ (before.counter_eq (c := .budgetDrop) (by decide))
      rw [readCounter, alerts]
      rfl
    rw [stands] at counts
    exact (after.counter_eq (c := .budgetDrop) (by decide)).trans counts
  · obtain ⟨g, sending⟩ := Option.isSome_iff_exists.mp busy
    have report : u.out.report = s.out.report := before.report_eq rfl sending
    have sendingx : x.out.sending = some g := by rw [out]; exact before.sending sending
    have enters := offerNotices_enter (fun c : Nat × DefectEntry => defectNotice .aged c.1 c.2)
      (agedOut r.head limit s.defects) (s := x) (by rw [sendingx]; rfl) (by rw [out, length, refusal, report]; exact room)
    obtain ⟨-, -, -, later, grown⟩ := after.queues
      (f := g) (by rw [event]; exact (offerNotices_carried _ _ x).sending sendingx)
    rw [← event, out, length, refusal, report, stampx, agedOut_eq, List.map_map] at enters
    rw [grown, enters]
    exact ⟨later, rfl⟩

end Sys2Proof.Aging
end

section
/-! PROOFS. When a WAITING step becomes ACTIVE (R56, R57, R86, R121). -/

namespace Sys2Proof.Activations

set_option Elab.async false

open Sys2Proof.Machine Sys2Proof.Safety Sys2Proof.Traffic Sys2Proof.Notices Sys2Proof.Frames Sys2Proof.Misses
  Sys2Proof.Classes Sys2Proof.Samplings Sys2Proof.Arrivals Sys2Proof.PlanSteps

variable {s t u : State} {arrival : Nat} {f : WedgeRead} {h : Nat}

/-! ### The conditions, the step's head aside -/

/-- What R121 asks of a head beside being the step's own, as stage 4 finds it. -/
structure Receptive (s : State) (h : Nat) : Prop where
  active : s.activeHead = some h
  clock : s.clock.state = .locked
  target : (headContext s h).targetValid = true
  seeking : (headContext s h).seeking = false
  settle : (headContext s h).settle = 0
  steady : (headContext s h).retargeted = false
  headCount : h < s.settings.headCount
  enabled : (headRec s h).enabled = true

theorem activationHolds_receptive : activationHolds s h = true ↔ stepHead s = some h ∧ Receptive s h := by
  rw [activationHolds_iff]
  exact ⟨fun ⟨own, a, b, c, d, e, f, g, i⟩ => ⟨own, a, b, c, d, e, f, g, i⟩,
    fun ⟨own, r⟩ => ⟨own, r.active, r.clock, r.target, r.seeking, r.settle, r.steady, r.headCount, r.enabled⟩⟩

theorem Receptive.congr (active : t.activeHead = s.activeHead) (clock : t.clock.state = s.clock.state)
    (context : headContext t h = headContext s h) (settings : t.settings = s.settings)
    (enabled : (headRec t h).enabled = (headRec s h).enabled) : Receptive t h ↔ Receptive s h := by
  constructor
  · rintro ⟨a, b, c, d, e, f, g, i⟩
    rw [active] at a
    rw [clock] at b
    rw [context] at c d e f
    rw [settings] at g
    rw [enabled] at i
    exact ⟨a, b, c, d, e, f, g, i⟩
  · rintro ⟨a, b, c, d, e, f, g, i⟩
    rw [← active] at a
    rw [← clock] at b
    rw [← context] at c d e f
    rw [← settings] at g
    rw [← enabled] at i
    exact ⟨a, b, c, d, e, f, g, i⟩

/-! ### The clock after its ruling (R64, R65, R67, R68) -/

/-- A running clock is LOCKED after a frame on time, and stays so at a late one. -/
theorem ruledClock_locked (set : Settings) (arrival w : Nat) (index : Bool) (c : Clock) :
    (ruledClock set (ruleFrame c arrival w index) arrival w (startIdle set c)).state = .locked ↔
      ruleFrame c arrival w index = .onTime ∨ (ruleFrame c arrival w index = .late ∧ c.state = .locked) := by
  cases ruling : ruleFrame c arrival w index with
  | onTime => exact ⟨fun _ => .inl rfl, fun _ => rfl⟩
  | late => exact ⟨fun locked => .inr ⟨rfl, locked⟩, fun e => by simpa [ruledClock, startIdle] using e⟩
  | early =>
    have expected : ∃ e, c.expected = some e := by
      rcases none : c.expected with _ | e
      · simp only [ruleFrame, none] at ruling
        split at ruling <;> cases ruling
      · exact ⟨e, rfl⟩
    obtain ⟨e, expected⟩ := expected
    have coasts : (ruledClock set .early arrival w (startIdle set c)).state = .coasting := by
      simp only [ruledClock, earlyClock, startIdle, expected]
      rfl
    rw [coasts]
    simp
  | slip => simp [ruledClock, slipClock]
  | unruled =>
    unfold ruleFrame at ruling
    split at ruling
    · split_ifs at ruling
    · split_ifs at ruling

theorem ruled_locked (arrival : Nat) (f : WedgeRead) (running : s.clock.state.running = true) :
    (ruled arrival f s).1.clock.state = .locked ↔
      rulingOn arrival f s = .onTime ∨ (rulingOn arrival f s = .late ∧ s.clock.state = .locked) := by
  have clock : (contextFound f s).clock = s.clock := by simp [contextFound]
  rw [ruled, clockStage_clock, ruleStage_clock, clock, clockAfter, if_pos running, rulingOn, if_pos running]
  exact ruledClock_locked _ _ _ _ _

theorem ruled_event_iff (arrival : Nat) (f : WedgeRead) (s : State) :
    (ruled arrival f s).2.event = (s.clock.state.running && f.index) := by
  have clock : (contextFound f s).clock = s.clock := by simp [contextFound]
  rw [ruled, clockStage_result, clock]

/-! ### The manual's conditions -/

theorem ruled_context (arrival : Nat) (f : WedgeRead) (s : State) : headContext (ruled arrival f s).1 f.head =
    { headContext s f.head with settle := settleFound s f.head - 1 } := by
  rw [headContext, (ruled_same arrival f s).2.2.2.2.2.1]
  exact (headContext_contextFound f s f.head).trans (if_pos rfl)

/-- What stage 4 of an eligible frame finds, in the terms of the frame's start. -/
theorem ruled_receptive (eligible : eligible s f.head f.wedge = true) (arrival : Nat) :
    Receptive (ruled arrival f s).1 f.head ↔ (ruled arrival f s).1.clock.state = .locked ∧
      (headContext s f.head).targetValid = true ∧ (headContext s f.head).seeking = false ∧
      (headContext s f.head).retargeted = false ∧ settleFound s f.head ≤ 1 := by
  obtain ⟨-, recs, -, -, settings, -, active⟩ := ruled_same arrival f s
  obtain ⟨headCount, enabled, -⟩ := DefectTable.eligible_iff.mp eligible
  have context := ruled_context arrival f s
  constructor
  · rintro ⟨-, clock, target, seeking, settle, steady, -, -⟩
    rw [context] at target seeking settle steady
    exact ⟨clock, target, seeking, steady, Nat.sub_eq_zero_iff_le.mp settle⟩
  · rintro ⟨clock, target, seeking, steady, settle⟩
    refine ⟨active, clock, ?_, ?_, ?_, ?_, by rw [settings]; exact headCount, by rw [headRec, recs]; exact enabled⟩
    all_goals rw [context]
    · exact target
    · exact seeking
    · exact Nat.sub_eq_zero_iff_le.mpr settle
    · exact steady

theorem ruled_stepHead (arrival : Nat) (f : WedgeRead) (s : State) : stepHead (ruled arrival f s).1 = stepHead s := by
  refine stepHead_congr ?_ (ruled_same arrival f s).2.2.2.1
  rw [ruled_plan, planFound_eq]
  split <;> simp

/-- `becomesActive`, as stages 2 and 4 find its conditions. -/
theorem becomesActive_iff (eligible : eligible s f.head f.wedge = true) (arrival : Nat) :
    becomesActive arrival f s = true ↔
      (ruled arrival f s).2.event = true ∧ stepHead s = some f.head ∧ Receptive (ruled arrival f s).1 f.head := by
  have running : (s.clock.state == .locked || s.clock.state == .coasting) = s.clock.state.running := by
    cases s.clock.state <;> rfl
  unfold becomesActive
  dsimp only
  rw [running, ruled_event_iff, ruled_receptive eligible arrival]
  by_cases runs : s.clock.state.running = true
  · rw [ruled_locked arrival f runs, runs]
    simp only [Bool.and_eq_true, Bool.or_eq_true, beq_iff_eq, Bool.not_eq_true', decide_eq_true_eq]
    tauto
  · simp [runs]

/-! ### A frame that brings no apply -/

/-- No pending solve of the frame's head. -/
def Unsolved (s : State) (h : Nat) : Prop := boundTo s h = false ∨ s.engine.pass ≠ .solve

theorem applied_unsolved (arrival : Nat) (unsolved : Unsolved s f.head) : applied arrival f s = ((ruled arrival f s).1, none) := by
  obtain ⟨binding, -, -, -, solve⟩ := ruled_engine_fields arrival f s
  refine if_neg fun e => ?_
  simp only [Bool.and_eq_true, beq_iff_eq, boundTo_congr binding f.head] at e
  obtain ⟨⟨-, bound⟩, pass⟩ := e
  rcases unsolved with free | other
  · rw [free] at bound
    cases bound
  · exact other (solve.mp pass)

theorem ruled_plan_waiting (arrival : Nat) (f : WedgeRead) (waiting : s.plan.sub = some .waiting) :
    (ruled arrival f s).1.plan = s.plan := by
  rw [ruled_plan, planFound_eq, Departures.returned_other (by rw [waiting]; decide), ite_self]

/-- Stage 4 of a frame that brings no apply, where the step waits. -/
theorem planned_waiting (eligible : eligible s f.head f.wedge = true) (arrival : Nat) (unsolved : Unsolved s f.head)
    (waiting : s.plan.sub = some .waiting) : planned arrival f s =
      if becomesActive arrival f s = true then
        setPlan { s.plan with sub := some .active, regs := {}, waitTimer := none } (ruled arrival f s).1
      else (ruled arrival f s).1 := by
  have plan := ruled_plan_waiting arrival f waiting
  have away : Unattended (ruled arrival f s).1 f.head := fun active => by
    rw [plan, waiting] at active
    cases active
  have closed : closeStage f.head (ruled arrival f s).2.event none (ruled arrival f s).1 = (ruled arrival f s).1 := by
    unfold closeStage
    rw [closeRevolution_away away]
    split
    · rfl
    · split <;> rfl
  rw [planned, applied_unsolved arrival unsolved, planStage_eq, closed]
  have holds : (ruled arrival f s).2.event = true ∧ activationHolds (ruled arrival f s).1 f.head = true ↔
      becomesActive arrival f s = true := by
    rw [becomesActive_iff eligible, activationHolds_receptive, ruled_stepHead]
  by_cases becomes : becomesActive arrival f s = true
  · obtain ⟨event, active⟩ := holds.mpr becomes
    rw [if_pos event, if_pos becomes, tryActivate, if_pos ⟨by rw [plan]; exact waiting, active⟩, plan]
  · rw [if_neg becomes]
    split
    · next event => exact if_neg fun e => becomes (holds.mp ⟨event, e.2⟩)
    · rfl

theorem learned_plan_eq (arrival : Nat) (f : WedgeRead) (s : State) :
    (learned arrival f s).plan = (planned arrival f s).plan := by simp [learned]

/-- The plan after a frame that brings no apply, where the step waits. -/
theorem handleWedge_waiting (eligible : eligible s f.head f.wedge = true) (table : f.index = true → DefectsHeld s)
    (arrival : Nat) (bytes : Frame) (unsolved : Unsolved s f.head) (waiting : s.plan.sub = some .waiting) :
    (becomesActive arrival f s = true → (handleWedge arrival f bytes s).plan = fedPlan arrival f s
      (handleWedge arrival f bytes s) { s.plan with sub := some .active, regs := {}, waitTimer := none }) ∧
      (becomesActive arrival f s = false → (handleWedge arrival f bytes s).plan = s.plan) := by
  rw [handleWedge_plan table arrival bytes, learned_plan_eq, planned_waiting eligible arrival unsolved waiting]
  refine ⟨fun becomes => by rw [if_pos becomes]; rfl, fun stays => ?_⟩
  rw [if_neg (by rw [stays]; decide), ruled_plan_waiting arrival f waiting]
  exact fedPlan_away fun n _ active => by
    rw [waiting] at active
    cases active

/-- A pass that waits goes on waiting where the step does (R81, R86). -/
theorem handleWedge_ready (eligible : eligible s f.head f.wedge = true) (table : f.index = true → DefectsHeld s)
    (arrival : Nat) (bytes : Frame) (waiting : s.plan.sub = some .waiting) (ready : s.engine.pass = .ready)
    (stays : becomesActive arrival f s = false) : (handleWedge arrival f bytes s).engine = s.engine := by
  have plan := ruled_plan_waiting arrival f waiting
  have engine : (ruled arrival f s).1.engine = s.engine := by
    rw [ruled_engine, engineFound_eq, Departures.discarded_other (by rw [ready]; decide), ite_self]
  have unsolved : Unsolved s f.head := .inr (by rw [ready]; decide)
  have planned : planned arrival f s = (ruled arrival f s).1 := by
    rw [planned_waiting eligible arrival unsolved waiting, if_neg (by rw [stays]; decide)]
  have away : Unattended (ruled arrival f s).1 f.head := fun active => by
    rw [plan, waiting] at active
    cases active
  have learned : learned arrival f s = (ruled arrival f s).1 := by
    rw [learned, planned]
    exact engineStage_away away fun accumulate => by
      rw [engine, ready] at accumulate
      cases accumulate
  rw [handleWedge_sampled table arrival bytes, learned, engine, sampledEngine, if_neg (by simp [ready])]

/-- Settles O41: R121's conditions at stage 4, and the mark a HOLD leaves for the head's next frame. -/
theorem stepsBecomeActiveAtRevolutionEvents : Obligations.StepsBecomeActiveAtRevolutionEvents := by
  constructor
  · intro s arrival f r arrives eligible waiting table unsolved
    exact ⟨_, by rw [exec_arrived arrives]; exact congrArg _ (if_pos eligible),
      handleWedge_waiting eligible table arrival f.bytes unsolved waiting⟩
  · intro s arrival hold f r h c taken below lands differs settle head
    refine ⟨_, Targets.exec_hold taken s, fun arrives eligible waiting table unsolved => ?_⟩
    generalize marked : offerFifo hold.bytes (readHoldFrame (readHold hold) s) = t at arrives eligible waiting table unsolved ⊢
    have differ : targetDiffers c (readHold hold) = true := by
      rw [Targets.targetDiffers_iff, Targets.readHold_offset]
      exact differs
    have context : (headContext t r.head).retargeted = true := by
      have contexts : t.contexts =
          Table.set {} s.contexts h (holdContext s.settings.switchSettle (readHold hold) c) := by
        rw [← marked, (Laws.offerFifo_frame hold.bytes _).2.2.2.2.2.1, Contexts.readHoldFrame_contexts]
        exact if_pos below
      have lands' : (readHold hold).seek = false := lands
      rw [headContext, contexts, head, Laws.get_set_same, Targets.holdContext_eq, differ, lands']
      simp [settle]
    have stays : becomesActive arrival r t = false := by
      simp [becomesActive, context]
    exact ⟨_, by rw [exec_arrived arrives]; exact congrArg _ (if_pos eligible),
      (handleWedge_waiting eligible table arrival f.bytes unsolved waiting).2 stays,
      fun _ ready => handleWedge_ready eligible table arrival f.bytes waiting ready stays⟩

end Sys2Proof.Activations
end

section
/-! PROOFS. Learning passes: their begin, their revolutions and their end at revolution events of the step's head (R79, R81 to R83). -/

namespace Sys2Proof.Passes

set_option Elab.async false

open Sys2Proof.Machine Sys2Proof.Safety Sys2Proof.Traffic Sys2Proof.Notices Sys2Proof.Frames Sys2Proof.Misses
  Sys2Proof.Classes Sys2Proof.Samplings Sys2Proof.Activations Sys2Proof.PlanSteps

variable {s t u : State} {arrival : Nat} {f : WedgeRead} {h n : Nat}

/-! ### Stage 6 and the cells -/

/-- Stage 6 reaches the cells alone, and those in a pass that accumulates. -/
theorem handleWedge_engine_cells (arrival : Nat) (f : WedgeRead) (bytes : Frame) (s : State) :
    (handleWedge arrival f bytes s).engine =
        { (learned arrival f s).engine with cells := (handleWedge arrival f bytes s).engine.cells } ∧
      ((learned arrival f s).engine.pass ≠ .accumulate →
        (handleWedge arrival f bytes s).engine = (learned arrival f s).engine) := by
  rw [Samples.handleWedge_engine]
  have sampled := Samples.frameStage_sampled f (facts arrival f s) (learned arrival f s)
  generalize (frameStage f (facts arrival f s) (learned arrival f s)).1.engine = e at sampled ⊢
  cases sampled with
  | same => exact ⟨rfl, fun _ => rfl⟩
  | added ec _ accumulate => exact ⟨rfl, fun other => absurd accumulate other⟩

/-- The cells after a frame of a head whose pass accumulates. -/
theorem handleWedge_cells (table : DefectsHeld s) (arrival : Nat) (bytes : Frame)
    (accumulates : (learned arrival f s).engine.pass = .accumulate) (bound : boundTo (learned arrival f s) f.head = true)
    (k : Nat) : engineCell (handleWedge arrival f bytes s) k =
      if k = f.wedge ∧ sampleable arrival f s (handleWedge arrival f bytes s) = true ∧
        (engineCell (learned arrival f s) k).count < cellLimit (learned arrival f s)
      then { sum := (engineCell (learned arrival f s) k).sum + unclampedError (computedAgainst s f) f
             count := (engineCell (learned arrival f s) k).count + 1 }
      else engineCell (learned arrival f s) k := by
  have sampled := (sampledEngine_cells f.wedge (unclampedError (computedAgainst s f) f)
    (boundTo (learned arrival f s) f.head && sampleable arrival f s (handleWedge arrival f bytes s))
    (cellLimit (learned arrival f s)) (learned arrival f s).engine).2 k
  rw [← handleWedge_sampled (fun _ => table) arrival bytes, bound, Bool.true_and] at sampled
  simp only [accumulates, true_and] at sampled
  exact sampled

/-- A pass that begins at the frame takes its sample first. -/
theorem handleWedge_fresh (table : DefectsHeld s) (arrival : Nat) (bytes : Frame)
    (accumulates : (learned arrival f s).engine.pass = .accumulate) (bound : boundTo (learned arrival f s) f.head = true)
    (cleared : (learned arrival f s).engine.cells = []) (room : 1 ≤ cellLimit (learned arrival f s)) :
    FreshCells arrival f s (handleWedge arrival f bytes s) := by
  have empty : ∀ k, engineCell (learned arrival f s) k = {} := fun k => by
    rw [engineCell, cleared]
    rfl
  intro k
  rw [handleWedge_cells table arrival bytes accumulates bound, empty]
  have positive : (({} : Cell).count < cellLimit (learned arrival f s)) = True := eq_true room
  simp only [positive, and_true]
  split
  · exact congrArg (Cell.mk · 1) (Int.zero_add _)
  · rfl

theorem computedAgainst_unsolved (unsolved : Unsolved s f.head) : computedAgainst s f = s := by
  unfold computedAgainst
  split
  · refine if_neg fun ⟨_, pass, bound⟩ => ?_
    rcases unsolved with free | other
    · rw [free] at bound
      cases bound
    · exact other pass
  · rfl

/-! ### Stage 5 -/

/-- The engine once a pass has begun (R79, R81). -/
def begun (h n : Nat) (steps : Table PlanStep) (e : Engine) : Engine :=
  if e.pass = .unbound then
    { e with
      binding := some { head := h, step := n }
      params := some (passParams (Table.get {} steps n))
      passNumber := 1
      cells := []
      revs := 0
      pass := .accumulate }
  else { e with cells := [], revs := 0, pass := .accumulate }

theorem beginPass_begun (h n : Nat) (s : State) : (beginPass h n s).engine = begun h n s.steps s.engine := by
  unfold beginPass begun
  split <;> rfl

theorem begun_fields (h n : Nat) (steps : Table PlanStep) (e : Engine) : (begun h n steps e).pass = .accumulate ∧
    (begun h n steps e).cells = [] ∧ (begun h n steps e).revs = 0 := by
  unfold begun
  split <;> exact ⟨rfl, rfl, rfl⟩

theorem activeLearnStep_of (current : s.plan.current = some n) (active : s.plan.sub = some .active)
    (learn : (planStep s n).phase = .learn) (head : (planStep s n).head = h) : activeLearnStep s h = some n := by
  unfold activeLearnStep
  split
  · next m current' _ =>
    obtain rfl : n = m := Option.some.inj (current.symm.trans current')
    exact if_pos ⟨learn, head⟩
  · next none => exact absurd active (none n current)

/-- At an event, or after an apply with a further pass, a pass begins. -/
theorem engineStage_begins {event further : Bool} (called : (event || further) = true)
    (idle : s.engine.pass = .unbound ∨ s.engine.pass = .ready) (learn : activeLearnStep s h = some n) :
    engineStage h event further s = beginPass h n s := by
  unfold engineStage
  split
  · next pass => simp [pass] at idle
  · next pass => simp [pass] at idle
  · rw [if_pos called, learn]
  · rw [if_pos called, learn]

/-- In ACCUMULATE a revolution of the bound head is counted. -/
theorem engineStage_counts {further : Bool} (accumulate : s.engine.pass = .accumulate) (bound : boundTo s h = true) :
    engineStage h true further s = countPassRevolution s := by
  unfold engineStage
  rw [accumulate, bound]
  rfl

theorem computeSolve_congr (cells : t.engine.cells = s.engine.cells) (settings : t.settings = s.settings)
    (runout : t.runout = s.runout) (h : Nat) (p : PassParams) : computeSolve h p t = computeSolve h p s := by
  have cell : ∀ w, engineCell t w = engineCell s w := fun w => by rw [engineCell, engineCell, cells]
  have entry : ∀ w, runoutEntry t h w = runoutEntry s h w := fun w => by rw [runoutEntry, runoutEntry, runout]
  simp only [computeSolve, passCorrections, settings, cell, entry]

/-! ### The event that finds or makes the step ACTIVE -/

/-- An ACTIVE LEARN step's revolution closes nothing. -/
theorem closeRevolution_learn (current : s.plan.current = some n) (learn : (planStep s n).phase = .learn) :
    closeRevolution h s = s := by
  unfold closeRevolution
  split
  · next m current' _ =>
    obtain rfl : n = m := Option.some.inj (current.symm.trans current')
    dsimp only
    rw [learn]
    exact ite_self s
  · rfl

theorem planStage_learn (current : s.plan.current = some n) (active : s.plan.sub = some .active)
    (learn : (planStep s n).phase = .learn) (event : Bool) : planStage h event none s = s := by
  have closed : closeStage h event none s = s := by
    unfold closeStage
    rw [closeRevolution_learn current learn]
    split
    · rfl
    · exact ite_self s
  have stays : tryActivate h s = s := if_neg fun e => by
    rw [active] at e
    cases e.1
  rw [planStage_eq, closed, stays, ite_self]

/-- How O30 finds the LEARN step: ACTIVE through the frame's notices, or becoming so. -/
def Served (arrival : Nat) (f : WedgeRead) (s : State) : Prop :=
  (s.plan.sub = some .active ∧ s.activeHead = some f.head ∧ (s.clock.state = .locked ∨ s.clock.state = .coasting) ∧
    rulingOn arrival f s ≠ .slip) ∨ (s.plan.sub = some .waiting ∧ becomesActive arrival f s = true)

theorem Served.event (served : Served arrival f s) (index : f.index = true) : (ruled arrival f s).2.event = true := by
  rw [ruled_event_iff, index, Bool.and_true]
  rcases served with ⟨-, -, state, -⟩ | ⟨-, becomes⟩
  · exact Departures.running_iff.mpr state
  · have running : (s.clock.state == .locked || s.clock.state == .coasting) = true := by
      unfold becomesActive at becomes
      simp only [Bool.and_eq_true] at becomes
      exact becomes.1.1.1.1.1.1.2
    simpa [Departures.running_iff] using running

/-- No slip comes with it. -/
theorem Served.steady (served : Served arrival f s) : rulingOn arrival f s ≠ .slip := by
  rcases served with ⟨-, -, -, steady⟩ | ⟨-, becomes⟩
  · exact steady
  · intro slip
    unfold becomesActive at becomes
    rw [slip] at becomes
    simp at becomes

/-- It takes nothing from a plan. -/
theorem Served.plan (served : Served arrival f s) : (ruled arrival f s).1.plan = s.plan := by
  rcases served with ⟨-, active, -, steady⟩ | ⟨waiting, -⟩
  · rw [ruled_plan, planFound_eq, if_neg]
    rintro (slip | left)
    · exact steady slip
    · rw [leaves_same active] at left
      cases left
  · exact ruled_plan_waiting arrival f waiting

/-- Nor from a pass, unless that of another head accumulates. -/
theorem Served.engine (served : Served arrival f s) (own : s.engine.pass = .accumulate → boundTo s f.head = true) :
    (ruled arrival f s).1.engine = s.engine := by
  rw [ruled_engine, engineFound_eq]
  by_cases accumulate : s.engine.pass = .accumulate
  · rw [if_neg]
    rintro (slip | left)
    · exact served.steady slip
    · rcases active : s.activeHead with _ | g
      · rw [leaves_first active] at left
        cases left
      · by_cases same : g = f.head
        · subst same
          rw [leaves_same active] at left
          cases left
        · rw [leaves_away active same] at left
          exact same (Samples.boundTo_unique left (own accumulate))
  · rw [Departures.discarded_other accumulate, ite_self]

/-- Stage 4 leaves it ACTIVE, and nothing but the plan changed. -/
theorem Served.planned (served : Served arrival f s) (eligible : eligible s f.head f.wedge = true)
    (unsolved : Unsolved s f.head) (current : s.plan.current = some n) (learn : (planStep s n).phase = .learn) :
    ∃ p : Plan, p.current = some n ∧ p.sub = some .active ∧ planned arrival f s = setPlan p (ruled arrival f s).1 := by
  have steps := (ruled_same arrival f s).2.2.2.1
  rcases served with ⟨active, rest⟩ | ⟨waiting, becomes⟩
  · have plan := Served.plan (.inl ⟨active, rest⟩)
    refine ⟨s.plan, current, active, ?_⟩
    rw [Traffic.planned, applied_unsolved arrival unsolved,
      planStage_learn (n := n) (by rw [plan]; exact current) (by rw [plan]; exact active)
        (by rw [planStep, steps]; exact learn), ← plan]
    rfl
  · exact ⟨{ s.plan with sub := some .active, regs := {}, waitTimer := none }, current, rfl,
      by rw [planned_waiting eligible arrival unsolved waiting, if_pos becomes]⟩

/-- Stage 5 of such an event. -/
theorem Served.learned (served : Served arrival f s) (eligible : eligible s f.head f.wedge = true) (index : f.index = true)
    (unsolved : Unsolved s f.head) (current : s.plan.current = some n) (learn : (planStep s n).phase = .learn)
    (head : (planStep s n).head = f.head) (own : s.engine.pass = .accumulate → boundTo s f.head = true) :
    (s.engine.pass = .unbound ∨ s.engine.pass = .ready →
      (learned arrival f s).engine = begun f.head n s.steps s.engine) ∧
    (∀ b p, s.engine.pass = .accumulate → s.engine.binding = some b → b.head = f.head → s.engine.params = some p →
      (s.engine.revs + 1 < p.revolutions → (learned arrival f s).engine = { s.engine with revs := s.engine.revs + 1 }) ∧
      (p.revolutions ≤ s.engine.revs + 1 → (learned arrival f s).engine = { s.engine with
        revs := s.engine.revs + 1
        pass := .solve
        pendingSolve := some (computeSolve f.head p s) })) := by
  obtain ⟨p, current', active, planned⟩ := served.planned eligible unsolved current learn
  obtain ⟨runout, -, -, steps, settings, -, -⟩ := ruled_same arrival f s
  have engine : (setPlan p (ruled arrival f s).1).engine = s.engine := served.engine own
  have step : planStep (setPlan p (ruled arrival f s).1) n = planStep s n := by
    rw [planStep, planStep]
    exact congrArg (fun t : Table PlanStep => Table.get {} t n) steps
  have staged : Traffic.learned arrival f s = engineStage f.head true false (setPlan p (ruled arrival f s).1) := by
    rw [Traffic.learned, served.event index, planned, applied_unsolved arrival unsolved]
    rfl
  rw [staged]
  generalize hv : setPlan p (ruled arrival f s).1 = v at engine step
  have plan : v.plan = p := by rw [← hv]; rfl
  have same : v.settings = s.settings ∧ v.runout = s.runout ∧ v.steps = s.steps := by
    rw [← hv]
    exact ⟨settings, runout, steps⟩
  refine ⟨fun idle => ?_, fun b q accumulate bound own' params => ⟨fun more => ?_, fun last => ?_⟩⟩
  · rw [engineStage_begins rfl (by rw [engine]; exact idle) (activeLearnStep_of (by rw [plan]; exact current')
      (by rw [plan]; exact active) (by rw [step]; exact learn) (by rw [step]; exact head)), beginPass_begun, engine, same.2.2]
  · rw [engineStage_counts (by rw [engine]; exact accumulate)
      ((Notices.boundTo_congr (congrArg Engine.binding engine) f.head).trans (own accumulate)),
      Laws.countPassRevolution_more v b q (by rw [engine]; exact bound) (by rw [engine]; exact params)
        (by rw [engine]; exact more), engine]
    rfl
  · rw [engineStage_counts (by rw [engine]; exact accumulate)
      ((Notices.boundTo_congr (congrArg Engine.binding engine) f.head).trans (own accumulate)),
      Laws.countPassRevolution_last v b q (by rw [engine]; exact bound) (by rw [engine]; exact params)
        (by rw [engine]; exact last), computeSolve_congr (congrArg Engine.cells engine) same.1 same.2.1, own', engine]
    rfl

/-- Settles O30: the three states a pass can be in, at an event that finds or makes its step ACTIVE. -/
theorem passesBeginAndEndAtRevolutionEvents : Obligations.PassesBeginAndEndAtRevolutionEvents := by
  intro s arrival n f r p ec arrives eligible index served current learn head
  obtain ⟨fields, rest⟩ := handleWedge_engine_cells arrival r f.bytes s
  refine ⟨handleWedge arrival r f.bytes s, by rw [exec_arrived arrives]; exact congrArg _ (if_pos eligible),
    fun unbound => ?_, fun q ready bound params => ?_, fun b q accumulate binding own params => ?_⟩
  · have engine := (Served.learned served eligible index (.inr (by rw [unbound]; decide)) current learn head
      (fun e => by rw [unbound] at e; cases e)).1 (.inl unbound)
    rw [begun, if_pos unbound] at engine
    rw [engine] at fields
    rw [fields]
    refine ⟨rfl, rfl, rfl, rfl, rfl, fun table => handleWedge_fresh table arrival f.bytes ?_ ?_ ?_ ?_⟩
    · rw [engine]
    · exact Samples.boundTo_iff.mpr ⟨_, by rw [engine], rfl⟩
    · rw [engine]
    · rw [cellLimit, engine]
      exact Nat.one_le_two_pow
  · have engine := (Served.learned served eligible index (.inr (by rw [ready]; decide)) current learn head
      (fun e => by rw [ready] at e; cases e)).1 (.inr ready)
    rw [begun, if_neg (by rw [ready]; decide)] at engine
    rw [engine] at fields
    refine ⟨fields, fun some table => handleWedge_fresh table arrival f.bytes ?_ ?_ ?_ ?_⟩
    · rw [engine]
    · exact (Notices.boundTo_congr (by rw [engine]) r.head).trans bound
    · rw [engine]
    · rw [cellLimit, engine]
      simp only [params]
      exact some
  · have bound : boundTo s r.head = true := Samples.boundTo_iff.mpr ⟨b, binding, own⟩
    have unsolved : Unsolved s r.head := .inr (by rw [accumulate]; decide)
    obtain ⟨more, last⟩ := (Served.learned served eligible index unsolved current learn head fun _ => bound).2 b q accumulate binding
      own params
    refine ⟨fun goesOn => ?_, fun ends => ?_⟩
    · have engine := more goesOn
      rw [engine] at fields
      refine ⟨by rw [fields]; exact accumulate, by rw [fields], fun table k => ?_⟩
      have cell : ∀ k, engineCell (learned arrival r s) k = engineCell s k := fun k => by rw [engineCell, engine]; rfl
      have limit : cellLimit (learned arrival r s) = q.revolutions := by
        rw [cellLimit, engine]
        simp only [params]
      have cells := handleWedge_cells (f := r) table arrival f.bytes (by rw [engine]; exact accumulate)
        ((Notices.boundTo_congr (by rw [engine]) r.head).trans bound) k
      rw [cell, limit, computedAgainst_unsolved unsolved] at cells
      exact cells
    · have engine := last ends
      rw [rest (by rw [engine]; nofun), engine]
      exact ⟨rfl, rfl, rfl⟩

end Sys2Proof.Passes
end

section
/-! PROOFS. The end of a step at a frame of its head: what StepEnded asks of it, its STEP_RESULT, and the step that follows it at the
same frame (R121, R123). -/

namespace Sys2Proof.Closings

set_option Elab.async false

open Sys2Proof.Machine Sys2Proof.Safety Sys2Proof.Traffic Sys2Proof.Notices Sys2Proof.Frames Sys2Proof.Misses
  Sys2Proof.Classes Sys2Proof.Activations Sys2Proof.PlanSteps Sys2Proof.Outcomes

variable {s t u v w : State} {arrival : Nat} {f : WedgeRead} {h n : Nat} {o : StepOutcome}

/-! ### A step's end (R123) -/

/-- The end of step `n` ends the plan, the outcome not being ABORTED. -/
theorem endsPlan_iff (steps : Table PlanStep) (n : Nat) (going : o ≠ .aborted) : EndsPlan steps n o ↔
    (o.failure = true ∧ (Table.get {} steps n).onFail = .stop) ∨ n = 31 ∨ (Table.get {} steps (n + 1)).phase = .none := by
  unfold EndsPlan
  simp only [going, false_or]

theorem concluded_alert (n : Nat) (o : StepOutcome) (s : State) :
    (concluded n o s).alerts.flags.getLsbD (if o.failure then 10 else 9) = true ∧
      readCounter (concluded n o s) 23 = if o.failure then saturated (readCounter s 23) 1 else readCounter s 23 := by
  have reported : readCounter (offerReport 5 (stepResult n o s) s) 23 = readCounter s 23 :=
    (offerReport_carried 5 _ s).counter_eq (c := .stepsFailed) (by decide)
  have alerts : (concluded n o s).alerts = (if o.failure then
      bump .stepsFailed (raise .stepFailed (offerReport 5 (stepResult n o s) s))
      else raise .stepDone (offerReport 5 (stepResult n o s) s)).alerts := by
    unfold concluded
    simp
  rw [readCounter, alerts]
  cases failed : o.failure
  · refine ⟨?_, reported⟩
    simp [Alert.weight, Alert.position]
  · refine ⟨?_, ?_⟩
    · simp [Alert.weight, Alert.position]
    · rw [if_pos rfl, if_pos rfl, ← reported]
      exact (Laws.readCounter_bump .stepsFailed 23 _).trans (if_pos (by rfl))

theorem endPlan_alert (reason : PlanReason) (s : State) : (endPlan reason s).alerts.flags.getLsbD 11 = true := by
  unfold endPlan
  simp [Alert.weight, Alert.position]

/-- A step's end, not ABORTED, is what StepEnded says. -/
theorem stepEnded_endStep (s : State) (n : Nat) (going : o ≠ .aborted) : StepEnded s (endStep n o s) n o.failure := by
  obtain ⟨alert, counter⟩ := concluded_alert n o s
  have carried := advance_carried n o (concluded n o s)
  have figures : (endStep n o s).plan.last = some n ∧ (endStep n o s).plan.ended = s.plan.ended + 1 ∧
      (endStep n o s).plan.failed = if o.failure then s.plan.failed + 1 else s.plan.failed := by
    by_cases ends : EndsPlan s.steps n o
    · rw [endStep_plan_ends ends]
      exact ⟨rfl, rfl, rfl⟩
    · rw [endStep_plan_next ends]
      exact ⟨rfl, rfl, rfl⟩
  obtain ⟨last, ended, failures⟩ := figures
  refine ⟨last, ended, failures, ?_, ?_, ?_⟩
  · rw [endStep_eq]
    exact (carried.counter_eq (c := .stepsFailed) (by decide)).trans counter
  · rw [endStep_eq]
    exact carried.flag_stays alert
  · split
    · next ends =>
      have endsPlan := (endsPlan_iff s.steps n going).mpr ends
      rw [endStep_plan_ends endsPlan]
      refine ⟨rfl, rfl, rfl, ?_⟩
      rw [endStep_eq]
      rcases Laws.advance_cases n o (concluded n o s) with ⟨-, e⟩ | ⟨-, -, -, e⟩ | ⟨-, -, -, e⟩ | ⟨-, goesOn, next, -⟩
      · rw [e]
        exact endPlan_alert _ _
      · rw [e]
        exact endPlan_alert _ _
      · rw [e]
        exact endPlan_alert _ _
      · have steps : ∀ k, planStep (concluded n o s) k = planStep s k := by simp [planStep]
        rw [steps] at goesOn next
        exact absurd ends (not_or.mpr ⟨goesOn, next⟩)
    · next goesOn =>
      rw [endStep_plan_next (mt (endsPlan_iff s.steps n going).mp goesOn)]
      exact ⟨rfl, rfl⟩

/-- The STEP_RESULT goes in first. -/
theorem endStep_report (busy : s.out.sending.isSome = true) (room : s.out.report.length < 32) (n : Nat) (o : StepOutcome) :
    ∃ later, (endStep n o s).out.report = s.out.report ++ resultOf n o s :: later := by
  obtain ⟨g, sending⟩ := Option.isSome_iff_exists.mp busy
  have out : (concluded n o s).out = { s.out with report := s.out.report ++ [resultOf n o s] } := by
    rw [concluded_busy busy room]
    rfl
  obtain ⟨-, -, -, later, grown⟩ := (advance_carried n o (concluded n o s)).queues (f := g) (by rw [out]; exact sending)
  refine ⟨later, ?_⟩
  rw [endStep_eq, grown, out, List.append_assoc]
  rfl

/-! ### What surrounds it -/

/-- What StepEnded reads before a step's end. -/
theorem StepEnded.from {failed : Bool} (ended : StepEnded v t n failed)
    (figures : v.plan.ended = s.plan.ended ∧ v.plan.failed = s.plan.failed ∧ v.plan.state = s.plan.state)
    (steps : v.steps = s.steps) (counter : readCounter v 23 = readCounter s 23) : StepEnded s t n failed := by
  obtain ⟨count, failures, state⟩ := figures
  have advance := ended.advance
  rw [planStep, planStep, steps, state] at advance
  exact ⟨ended.last, by rw [← count]; exact ended.ended, by rw [← failures]; exact ended.failures,
    by rw [← counter]; exact ended.counter, ended.alert, advance⟩

/-- What it reads after it: registers, sub-state and timer of a step that follows aside. -/
theorem StepEnded.into {failed : Bool} {F : Footprint} (ended : StepEnded s w n failed) (carried : Carried F w t)
    (untouched : Counter.stepsFailed ∉ F.counters)
    (figures : t.plan.last = w.plan.last ∧ t.plan.ended = w.plan.ended ∧ t.plan.failed = w.plan.failed ∧
      t.plan.state = w.plan.state ∧ t.plan.current = w.plan.current ∧ (w.plan.sub = none → t.plan.sub = none)) :
    StepEnded s t n failed := by
  obtain ⟨last, count, failures, state, current, sub⟩ := figures
  have counter : readCounter t 23 = readCounter w 23 := carried.counter_eq (c := .stepsFailed) untouched
  refine ⟨last.trans ended.last, count.trans ended.ended, failures.trans ended.failures, counter.trans ended.counter,
    carried.flag_stays ended.alert, ?_⟩
  have advance := ended.advance
  rw [state, current]
  split
  · next ends =>
    rw [if_pos ends] at advance
    obtain ⟨state, current, none, alert⟩ := advance
    exact ⟨state, current, sub none, carried.flag_stays alert⟩
  · next goesOn =>
    rw [if_neg goesOn] at advance
    exact advance

/-! ### After stage 4 -/

/-- What a frame does after stage 4. -/
def trailing : Footprint :=
  { counters := [.heldFrames, .saturatedFrames, .defectDrop, .reportDrop, .budgetDrop, .loopDrop]
    alerts := [.defectConfirmed, .defectFull, .offtrack, .reportOverflow]
    loop := true
    report := true
    budget := true }

theorem handleWedge_trailing (arrival : Nat) (f : WedgeRead) (bytes : Frame) (s : State) :
    Carried trailing (planned arrival f s) (handleWedge arrival f bytes s) := by
  have learned : Carried trailing (planned arrival f s) (learned arrival f s) := engineStage_carried _ _ _ _
  have classed : Carried trailing (planned arrival f s) (classed arrival f s).1 :=
    learned.andThen (frameStage_carried f _ _)
  rw [handleWedge_eq]
  exact (classed.andRest (alerts := by simp)).andThen (forward_carried bytes _ _)

/-- Stage 6 reaches the registers of an ACTIVE step alone. -/
theorem handleWedge_watched (arrival : Nat) (f : WedgeRead) (bytes : Frame) (s : State) :
    (handleWedge arrival f bytes s).plan = { (planned arrival f s).plan with regs := (handleWedge arrival f bytes s).plan.regs } := by
  have same : (handleWedge arrival f bytes s).plan = (frameStage f (facts arrival f s) (learned arrival f s)).1.plan := by
    rw [handleWedge_eq]
    simp [classed]
  rw [same, ← learned_plan_eq]
  rcases PlanLaw.frameStage_watched f (facts arrival f s) (learned arrival f s) with e | ⟨-, r, e⟩ <;> rw [e]

theorem handleWedge_planned (arrival : Nat) (f : WedgeRead) (bytes : Frame) (s : State) :
    (handleWedge arrival f bytes s).headRecs = (planned arrival f s).headRecs ∧
      (handleWedge arrival f bytes s).clock = (ruled arrival f s).1.clock := by
  rw [handleWedge_eq]
  simp [classed, learned, planned, applied]

/-- Stage 4 with its activation. -/
def activated (h : Nat) (event : Bool) (w : State) : State := if event then tryActivate h w else w

theorem activated_rest (h : Nat) (event : Bool) (w : State) : activated h event w = { w with plan := (activated h event w).plan } ∧
    (activated h event w).plan = { w.plan with
      sub := (activated h event w).plan.sub
      regs := (activated h event w).plan.regs
      waitTimer := (activated h event w).plan.waitTimer } ∧
    (w.plan.sub = none → (activated h event w).plan.sub = none) := by
  unfold activated
  split
  · rcases Laws.tryActivate_cases h w with ⟨waiting, -, e⟩ | ⟨-, e⟩ <;> rw [e]
    · exact ⟨rfl, rfl, fun none => by rw [none] at waiting; cases waiting⟩
    · exact ⟨rfl, rfl, id⟩
  · exact ⟨rfl, rfl, id⟩

/-- Which WAITING step it makes ACTIVE. -/
theorem activated_active {event : Bool} (waiting : w.plan.sub = some .waiting) :
    (activated h event w).plan.sub = some .active ↔ event = true ∧ stepHead w = some h ∧ Receptive w h := by
  rw [← activationHolds_receptive]
  unfold activated
  cases event with
  | false =>
    rw [if_neg (by decide), waiting]
    simp
  | true =>
    rw [if_pos rfl]
    rcases Laws.tryActivate_cases h w with ⟨-, holds, e⟩ | ⟨stays, e⟩ <;> rw [e]
    · exact ⟨fun _ => ⟨rfl, holds⟩, fun _ => rfl⟩
    · rw [waiting]
      exact ⟨nofun, fun ⟨_, holds⟩ => absurd ⟨waiting, holds⟩ stays⟩

theorem planned_eq (arrival : Nat) (f : WedgeRead) (s : State) : planned arrival f s =
    activated f.head (ruled arrival f s).2.event
      (closeStage f.head (ruled arrival f s).2.event (applied arrival f s).2 (applied arrival f s).1) := rfl

/-! ### A frame that ends a step -/

/-- A frame whose stage 4 ends the step: StepEnded, and the STEP_RESULT behind what the stages before it reported. -/
theorem handleWedge_ends {event : Bool} {F : Footprint} (bytes : Frame) (going : o ≠ .aborted)
    (ends : planned arrival f s = activated h event (endStep n o v)) (carried : Carried F s v)
    (untouched : Counter.stepsFailed ∉ F.counters) (steps : v.steps = s.steps)
    (figures : v.plan.ended = s.plan.ended ∧ v.plan.failed = s.plan.failed ∧ v.plan.state = s.plan.state) :
    StepEnded s (handleWedge arrival f bytes s) n o.failure ∧
      (s.out.sending.isSome = true → v.out.report.length < 32 → ∃ after,
        (handleWedge arrival f bytes s).out.report = v.out.report ++ resultOf n o v :: after) := by
  obtain ⟨rest, plan, sub⟩ := activated_rest h event (endStep n o v)
  have same : Carried trailing (endStep n o v) (planned arrival f s) := by
    rw [ends, rest]
    exact .rest rfl rfl rfl rfl
  have after := same.trans (handleWedge_trailing arrival f bytes s)
  have counter : readCounter v 23 = readCounter s 23 := carried.counter_eq (c := .stepsFailed) untouched
  have watched := handleWedge_watched arrival f bytes s
  rw [ends] at watched
  refine ⟨StepEnded.into (StepEnded.from (stepEnded_endStep v n going) figures steps counter) after (by decide) ?_,
    fun busy room => ?_⟩
  · rw [watched]
    refine ⟨?_, ?_, ?_, ?_, ?_, sub⟩ <;> rw [plan]
  · obtain ⟨g, sending⟩ := Option.isSome_iff_exists.mp busy
    have sendingv : v.out.sending = some g := carried.sending sending
    obtain ⟨first, entered⟩ := endStep_report (by rw [sendingv]; rfl) room n o
    obtain ⟨-, -, -, later, grown⟩ := after.queues ((endStep_carried n o v).sending sendingv)
    exact ⟨first ++ later, by rw [grown, entered, List.append_assoc]; rfl⟩

/-- The step that follows it at the same frame. -/
theorem handleWedge_follows {event : Bool} (bytes : Frame)
    (ends : planned arrival f s = activated f.head event (endStep n o v)) (steps : v.steps = s.steps)
    (receptive : Receptive v f.head ↔ Receptive u f.head)
    (entered : (handleWedge arrival f bytes s).plan.current = some (n + 1)) :
    (handleWedge arrival f bytes s).plan.sub = some .active ↔
      event = true ∧ (planStep s (n + 1)).head = f.head ∧ Receptive u f.head := by
  obtain ⟨-, plan, -⟩ := activated_rest f.head event (endStep n o v)
  have watched := handleWedge_watched arrival f bytes s
  rw [ends] at watched
  have next : ¬EndsPlan v.steps n o := fun last => by
    rw [watched, plan, endStep_plan_ends last] at entered
    cases entered
  have waiting := endStep_plan_next next
  have head : stepHead (endStep n o v) = some f.head ↔ (planStep s (n + 1)).head = f.head := by
    rw [stepHead, waiting]
    simp [enteredPlan, planStep, steps]
  have same : Receptive (endStep n o v) f.head ↔ Receptive v f.head :=
    Receptive.congr (by simp) (by simp) (by simp [headContext]) (by simp) (by simp [headRec])
  have sub : (handleWedge arrival f bytes s).plan.sub = (activated f.head event (endStep n o v)).plan.sub := by rw [watched]
  rw [sub, activated_active (by rw [waiting]; rfl), head, same, receptive]

end Sys2Proof.Closings
end

section
/-! PROOFS. Measurements of SETTLE, OFFSET and VERIFY steps: their revolutions, ends and figures (R126 to R131). -/

namespace Sys2Proof.Measurements

set_option Elab.async false

open Sys2Proof.Machine Sys2Proof.Safety Sys2Proof.Traffic Sys2Proof.Notices Sys2Proof.Frames Sys2Proof.Misses
  Sys2Proof.Classes Sys2Proof.Samplings Sys2Proof.Activations Sys2Proof.Passes Sys2Proof.Closings Sys2Proof.PlanSteps
  Sys2Proof.Outcomes Sys2Proof.Offsets

variable {s t u v w : State} {arrival : Nat} {f : WedgeRead} {h n : Nat} {o : StepOutcome}

theorem effectiveOffset_congr (same : t.headRecs = s.headRecs) (h : Nat) : effectiveOffset t h = effectiveOffset s h := by
  simp only [effectiveOffset, tracking_congr same, headRec, same]

/-! ### Reports before stage 3 (R72, R99) -/

/-- An event with no SUSPECT entry of its head reports nothing. -/
theorem revolutionEvent_out (clean : ∀ c ∈ s.defects, c.2.head = h → c.2.state ≠ .suspect) :
    (revolutionEvent h s).out.report = s.out.report := by
  have none : Machine.agedOut h s.settings.ageLimit s.defects = [] := by
    rw [Aging.agedOut_eq, List.map_eq_nil_iff, List.filter_eq_nil_iff]
    intro c mem aged
    obtain ⟨head, suspect, -⟩ := of_decide_eq_true aged
    exact clean c mem head suspect
  show (((Machine.agedOut h s.settings.ageLimit s.defects).foldl _ _ : State)).out.report = _
  rw [none]
  rfl

theorem contextFound_foundBy (eligible : eligible s f.head f.wedge = true) : Arrivals.foundBy f s = contextFound f s :=
  if_pos eligible

/-- Stages 1 and 2 of an index frame under a running clock. -/
theorem ruled_event_report (eligible : eligible s f.head f.wedge = true) (index : f.index = true)
    (running : s.clock.state.running = true) (arrival : Nat) : (ruled arrival f s).1.clock.stamp = s.clock.stamp + 1 ∧
      (s.out.sending.isSome = true → (∀ c ∈ s.defects, c.2.head = f.head → c.2.state ≠ .suspect) →
        (ruled arrival f s).1.out.report = s.out.report) := by
  obtain ⟨before, defects, stamp⟩ := Aging.ruleStage_foundBy arrival f running
  rw [contextFound_foundBy eligible] at before defects stamp
  have event : (ruled arrival f s).1 = revolutionEvent f.head (ruleStage arrival f.wedge f.index (contextFound f s)).1 := by
    rw [ruled, Hits.clockStage_eq]
    refine if_pos ?_
    have clock : (contextFound f s).clock = s.clock := by simp [contextFound]
    rw [ruleStage_result, clock, running, index]
    rfl
  rw [event]
  refine ⟨?_, fun busy clean => ?_⟩
  · rw [ClockLaw.revolutionEvent_clock]
    exact congrArg (· + 1) stamp
  · obtain ⟨g, sending⟩ := Option.isSome_iff_exists.mp busy
    rw [revolutionEvent_out (by rw [defects]; exact clean)]
    exact before.report_eq rfl sending

/-! ### The ACTIVE step at an event of its head -/

/-- An eligible index frame of an ACTIVE step's head, no slip, in a part that stands as PlanHeld says. -/
structure Measured (arrival : Nat) (f : WedgeRead) (s : State) (n : Nat) : Prop where
  held : PlanHeld s
  eligible : eligible s f.head f.wedge = true
  index : f.index = true
  steady : rulingOn arrival f s ≠ .slip
  current : s.plan.current = some n
  active : s.plan.sub = some .active
  head : (planStep s n).head = f.head

theorem ruled_step (arrival : Nat) (f : WedgeRead) (s : State) (n : Nat) :
    planStep (ruled arrival f s).1 n = planStep s n := by
  rw [planStep, planStep, (ruled_same arrival f s).2.2.2.1]

namespace Measured
variable (m : Measured arrival f s n)
include m

theorem measuring : Measuring s f.head := by
  rw [← m.head]
  exact m.held.measuring n m.current m.active

theorem served : Served arrival f s :=
  .inl ⟨m.active, m.measuring.active, Departures.running_iff.mp m.measuring.clock, m.steady⟩

/-- A binding is the step's own. -/
theorem bound : s.engine.pass ≠ .unbound → (planStep s n).phase = .learn ∧ boundTo s f.head = true := by
  intro pass
  have some : s.engine.binding ≠ none := fun e => pass (m.held.unbound.mpr e)
  obtain ⟨b, hb⟩ := Option.ne_none_iff_exists'.mp some
  obtain ⟨current, learn, head⟩ := m.held.bound b hb
  obtain rfl : n = b.step := Option.some.inj (m.current.symm.trans current)
  exact ⟨learn, Samples.boundTo_iff.mpr ⟨b, hb, head.symm.trans m.head⟩⟩

theorem event : (ruled arrival f s).2.event = true := m.served.event m.index

theorem plan : (ruled arrival f s).1.plan = s.plan := m.served.plan

theorem receptive : Receptive (ruled arrival f s).1 f.head ↔ (ruled arrival f s).1.clock.state = .locked := by
  have conditions := m.measuring
  have settle : settleFound s f.head ≤ 1 := by
    rw [settleFound, if_pos conditions.active, conditions.settle]
    exact Nat.zero_le 1
  rw [ruled_receptive m.eligible arrival]
  exact ⟨fun e => e.1, fun locked => ⟨locked, conditions.target, conditions.seeking, conditions.steady, settle⟩⟩

/-- A step that is no LEARN step has no binding. -/
theorem unsolved (other : (planStep s n).phase ≠ .learn) : Unsolved s f.head := by
  refine .inr fun solve => other (m.bound ?_).1
  rw [solve]
  nofun

theorem planned (other : (planStep s n).phase ≠ .learn) :
    planned arrival f s = activated f.head true (closeRevolution f.head (ruled arrival f s).1) := by
  rw [planned_eq, m.event, applied_unsolved arrival (m.unsolved other)]
  rfl
end Measured

/-- The phase closes its revolution. -/
theorem closeRevolution_active (current : s.plan.current = some n) (active : s.plan.sub = some .active)
    (head : (planStep s n).head = h) : closeRevolution h s =
      match (planStep s n).phase with
      | .settle => closeSettle n (planStep s n) s
      | .offset => closeOffset n (planStep s n) s
      | .verify => closeVerify n (planStep s n) s
      | .none | .learn => s := by
  unfold closeRevolution
  split
  · next m current' _ =>
    obtain rfl : n = m := Option.some.inj (current.symm.trans current')
    exact if_pos head
  · next none => exact absurd active (none n current)

/-! ### The step that follows -/

/-- An apply reaches the tallies alone of the plan. -/
theorem applied_plan (arrival : Nat) (f : WedgeRead) (s : State) : (applied arrival f s).1.plan =
    { (ruled arrival f s).1.plan with tallies := (applied arrival f s).1.plan.tallies } := by
  unfold applied
  generalize (ruled arrival f s).1 = u
  rcases hb : u.engine.binding with _ | b
  · rw [PlanLaw.applyStage_other (.inl hb)]
  rcases hp : u.engine.params with _ | p
  · rw [PlanLaw.applyStage_other (.inr (.inl hp))]
  rcases hv : u.engine.pendingSolve with _ | v
  · rw [PlanLaw.applyStage_other (.inr (.inr hv))]
  unfold applyStage
  split
  · rw [(PlanLaw.applySolve_leaves hb hp hv).2.1]
  · rfl

/-- What an offset write leaves of a record's other fields. -/
theorem offsetsAt_enabled (moved : OffsetsAt h s t) : (headRec t h).enabled = (headRec s h).enabled := by
  rw [moved.1]

theorem applied_receptive (arrival : Nat) (f : WedgeRead) (s : State) :
    Receptive (applied arrival f s).1 f.head ↔ Receptive (ruled arrival f s).1 f.head := by
  have enabled : (headRec (applied arrival f s).1 f.head).enabled = (headRec (ruled arrival f s).1 f.head).enabled := by
    have moved := offsetsAt_enabled (computedAgainst_same s f).2.2
    rw [headRec, headRec, (applied_computed arrival f s).2, (ruled_same arrival f s).2.1]
    exact moved
  exact Receptive.congr (by simp [applied]) (by simp [applied]) (by simp [applied, headContext]) (by simp [applied]) enabled

/-- A step entered at the frame is ACTIVE where it is of the frame's head and the clock is LOCKED. -/
theorem Measured.follows (m : Measured arrival f s n) (bytes : Frame)
    (entered : (handleWedge arrival f bytes s).plan.current = some (n + 1)) :
    (handleWedge arrival f bytes s).plan.sub = some .active ↔
      (planStep s (n + 1)).head = f.head ∧ (handleWedge arrival f bytes s).clock.state = .locked := by
  have clock := (handleWedge_planned arrival f bytes s).2
  have found : (applied arrival f s).1.plan.current = some n := by
    rw [applied_plan, m.plan]
    exact m.current
  have steps : (applied arrival f s).1.steps = s.steps := by simp [applied]
  have receptive := (applied_receptive arrival f s).trans m.receptive
  have watched := handleWedge_watched arrival f bytes s
  have shape := planned_eq arrival f s
  have closed := closeStage_cases f.head (ruled arrival f s).2.event (applied arrival f s).2 (applied arrival f s).1
  generalize closeStage f.head (ruled arrival f s).2.event (applied arrival f s).2 (applied arrival f s).1 = w at shape closed
  have goesOn : w.plan.current ≠ some n := fun stays => by
    rw [watched, shape, (activated_rest f.head (ruled arrival f s).2.event w).2.1] at entered
    rw [show w.plan.current = some (n + 1) from entered] at stays
    exact Nat.succ_ne_self n (Option.some.inj stays)
  have ended : ∀ v o, v.steps = s.steps → (Receptive v f.head ↔ Receptive (applied arrival f s).1 f.head) →
      w = endStep n o v → ((handleWedge arrival f bytes s).plan.sub = some .active ↔
        (planStep s (n + 1)).head = f.head ∧ (handleWedge arrival f bytes s).clock.state = .locked) :=
    fun v o same stage e => by
      rw [e] at shape
      rw [handleWedge_follows bytes shape same (stage.trans (applied_receptive arrival f s)) entered, m.event, m.receptive, clock]
      simp only [true_and]
  rcases closed with ⟨k, o, current, -, e⟩ | closed
  · obtain rfl : n = k := Option.some.inj (found.symm.trans current)
    exact ended _ o steps Iff.rfl e
  · cases closed with
    | same => exact absurd found goesOn
    | counted k r => exact absurd found goesOn
    | ended k r o current =>
      obtain rfl : n = k := Option.some.inj (found.symm.trans current)
      exact ended (setPlan { (applied arrival f s).1.plan with regs := r } (applied arrival f s).1) o steps
        (Receptive.congr rfl rfl rfl rfl rfl) rfl
    | written k r x current =>
      obtain rfl : n = k := Option.some.inj (found.symm.trans current)
      refine ended (writeMeasuredOffset f.head x (setPlan { (applied arrival f s).1.plan with regs := r } (applied arrival f s).1))
        .passed ?_ ?_ rfl
      · rw [writeMeasuredOffset_eq]
        exact steps
      · rw [writeMeasuredOffset_eq]
        refine Receptive.congr rfl rfl rfl rfl ?_
        rw [Laws.headRec_setHeadRec, if_pos rfl]
        exact measuredRec_enabled _ _ _

/-! ### A revolution closed -/

/-- The state after a revolution's count in the registers. -/
def recounted (r : Registers) (s : State) : State := setPlan { s.plan with regs := r } s

/-- What the frame reports of a step it ends (R131). -/
def Result (s t : State) (f : WedgeRead) (n : Nat) (phase outcome : Byte) (figures : Int × Int × Int) : Prop :=
  s.out.sending.isSome = true → s.out.report.length < 32 →
    (∀ c ∈ s.defects, c.2.head = f.head → c.2.state ≠ .suspect) → ∃ after, t.out.report = s.out.report ++
      reportBytes 5 (s.clock.stamp + 1) (resultRecord n f.head phase outcome figures.1 figures.2.1 figures.2.2) :: after

/-- A revolution that ends its step: StepEnded and the STEP_RESULT. -/
theorem Measured.ends (m : Measured arrival f s n) (bytes : Frame) {r : Registers} (going : o ≠ .aborted)
    (other : (planStep s n).phase ≠ .learn) (plan : v.plan = { s.plan with regs := r }) (steps : v.steps = s.steps)
    (carried : Carried {} (ruled arrival f s).1 v) (out : v.out = (ruled arrival f s).1.out)
    (clock : v.clock = (ruled arrival f s).1.clock)
    (closes : closeRevolution f.head (ruled arrival f s).1 = endStep n o v) :
    StepEnded s (handleWedge arrival f bytes s) n o.failure ∧
      Result s (handleWedge arrival f bytes s) f n (phaseByte (planStep s n).phase) (BitVec.ofNat 8 o.code) (stepFigures n o v) := by
  obtain ⟨stamp, quiet⟩ := ruled_event_report m.eligible m.index m.measuring.clock arrival
  have before : Carried clocks s v := (ruled_carried arrival f s).andThen carried
  have shape : Traffic.planned arrival f s = activated f.head true (endStep n o v) := by rw [m.planned other, closes]
  obtain ⟨ended, reported⟩ := handleWedge_ends bytes going shape before (by decide) steps (by rw [plan]; exact ⟨rfl, rfl, rfl⟩)
  refine ⟨ended, fun busy room clean => ?_⟩
  have report : v.out.report = s.out.report := by rw [out]; exact quiet busy clean
  obtain ⟨after, entered⟩ := reported busy (by rw [report]; exact room)
  have step : planStep v n = planStep s n := by rw [planStep, planStep, steps]
  rw [report, resultOf, stepResult_eq, clock, stamp, step, m.head] at entered
  exact ⟨after, entered⟩

/-- A revolution that leaves its step ACTIVE: StepGoesOn, and what the frame's own contribution makes of the registers. -/
theorem Measured.goesOn (m : Measured arrival f s n) (bytes : Frame) {r : Registers} (other : (planStep s n).phase ≠ .learn)
    (closes : closeRevolution f.head (ruled arrival f s).1 = recounted r (ruled arrival f s).1) :
    StepGoesOn s (handleWedge arrival f bytes s) n ∧ (handleWedge arrival f bytes s).headRecs = s.headRecs ∧
      (DefectsHeld s → (handleWedge arrival f bytes s).plan.regs =
        fed arrival f s (handleWedge arrival f bytes s) (planStep s n).phase r) := by
  have shape : Traffic.planned arrival f s = recounted r (ruled arrival f s).1 := by
    rw [m.planned other, closes, activated, if_pos rfl]
    refine if_neg fun e => ?_
    rw [show (recounted r (ruled arrival f s).1).plan.sub = (ruled arrival f s).1.plan.sub from rfl, m.plan, m.active] at e
    cases e.1
  have plan : (Traffic.planned arrival f s).plan = { s.plan with regs := r } := by
    rw [shape, ← m.plan]
    rfl
  have watched := handleWedge_watched arrival f bytes s
  rw [plan] at watched
  have counter : readCounter (ruled arrival f s).1 23 = readCounter s 23 :=
    (ruled_carried arrival f s).counter_eq (c := .stepsFailed) (by decide)
  have trailed := (handleWedge_trailing arrival f bytes s).counter_eq (c := .stepsFailed) (by decide)
  rw [shape] at trailed
  refine ⟨⟨?_, ?_, trailed.trans counter⟩, ?_, fun table => ?_⟩
  · rw [watched]
    exact ⟨m.current, m.active, rfl⟩
  · rw [watched]
    exact ⟨rfl, rfl, rfl⟩
  · rw [(handleWedge_planned arrival f bytes s).1, shape]
    exact (ruled_same arrival f s).2.1
  · rw [handleWedge_plan (fun _ => table) arrival bytes, learned_plan_eq, plan,
      fedPlan_active (p := { s.plan with regs := r }) m.current m.active m.head]

/-- The frame that ends a step leaves records as the step's end leaves them. -/
theorem Measured.endRecords (m : Measured arrival f s n) (bytes : Frame) (other : (planStep s n).phase ≠ .learn)
    (closes : closeRevolution f.head (ruled arrival f s).1 = endStep n o v) :
    (handleWedge arrival f bytes s).headRecs = v.headRecs := by
  rw [(handleWedge_planned arrival f bytes s).1, m.planned other, closes, (activated_rest _ _ _).1]
  simp

/-! ### The phases (R126, R128, R129) -/

/-- The registers after a SETTLE revolution. -/
def settleRegs (g : Registers) : Registers :=
  { g with
    settleUsed := g.settleUsed + 1
    settleClean := if g.settleMark then 0 else g.settleClean + 1
    settleMark := false }

section
variable (current : u.plan.current = some n) (active : u.plan.sub = some .active) (head : (planStep u n).head = h)
include current active head

theorem closeRevolution_settle (phase : (planStep u n).phase = .settle) : closeRevolution h u =
    if settleLimit (planStep u n).limitA ≤ (settleRegs u.plan.regs).settleClean then
      endStep n .passed (recounted (settleRegs u.plan.regs) u)
    else if 4 * settleLimit (planStep u n).limitA ≤ u.plan.regs.settleUsed + 1 then
      endStep n .timeoutSettle (recounted (settleRegs u.plan.regs) u)
    else recounted (settleRegs u.plan.regs) u := by
  rw [closeRevolution_active current active head, phase]
  rfl

theorem closeRevolution_offset (phase : (planStep u n).phase = .offset) : closeRevolution h u =
    if 2 ^ (planStep u n).m ≤ u.plan.regs.offsetRevs + 1 then
      if u.settings.wedges * 2 ^ (planStep u n).m ≤ 2 * u.plan.regs.offsetCount then
        endStep n .passed (writeMeasuredOffset h (measuredOffset u.plan.regs) (recounted { u.plan.regs with
          offsetRevs := u.plan.regs.offsetRevs + 1, offsetOld := effectiveOffset u h } u))
      else endStep n .failedThin (recounted { u.plan.regs with
        offsetRevs := u.plan.regs.offsetRevs + 1, offsetOld := effectiveOffset u h } u)
    else recounted { u.plan.regs with offsetRevs := u.plan.regs.offsetRevs + 1 } u := by
  rw [closeRevolution_active current active head, phase, ← head]
  rfl

theorem closeRevolution_verify (phase : (planStep u n).phase = .verify) : closeRevolution h u =
    if 2 ^ (planStep u n).m ≤ u.plan.regs.verifyRevs + 1 then
      endStep n (verifyOutcome (planStep u n) u.settings.wedges u.plan.regs)
        (recounted { u.plan.regs with verifyRevs := u.plan.regs.verifyRevs + 1 } u)
    else recounted { u.plan.regs with verifyRevs := u.plan.regs.verifyRevs + 1 } u := by
  rw [closeRevolution_active current active head, phase]
  rfl
end

section
variable (m : Measured arrival f s n)
include m

theorem settle_closes (phase : (planStep s n).phase = .settle) : closeRevolution f.head (ruled arrival f s).1 =
    if settleLimit (planStep s n).limitA ≤ (settleRegs s.plan.regs).settleClean then
      endStep n .passed (recounted (settleRegs s.plan.regs) (ruled arrival f s).1)
    else if 4 * settleLimit (planStep s n).limitA ≤ s.plan.regs.settleUsed + 1 then
      endStep n .timeoutSettle (recounted (settleRegs s.plan.regs) (ruled arrival f s).1)
    else recounted (settleRegs s.plan.regs) (ruled arrival f s).1 := by
  have step := ruled_step arrival f s n
  have plan := m.plan
  generalize (ruled arrival f s).1 = u at step plan ⊢
  have closes := closeRevolution_settle (u := u) (h := f.head) (n := n) (by rw [plan]; exact m.current)
    (by rw [plan]; exact m.active) (by rw [step]; exact m.head) (by rw [step]; exact phase)
  rw [step, plan] at closes
  exact closes

theorem offset_closes (phase : (planStep s n).phase = .offset) : closeRevolution f.head (ruled arrival f s).1 =
    if 2 ^ (planStep s n).m ≤ s.plan.regs.offsetRevs + 1 then
      if s.settings.wedges * 2 ^ (planStep s n).m ≤ 2 * s.plan.regs.offsetCount then
        endStep n .passed (writeMeasuredOffset f.head (measuredOffset s.plan.regs)
          (recounted { s.plan.regs with
            offsetRevs := s.plan.regs.offsetRevs + 1, offsetOld := effectiveOffset s f.head } (ruled arrival f s).1))
      else endStep n .failedThin (recounted { s.plan.regs with
        offsetRevs := s.plan.regs.offsetRevs + 1, offsetOld := effectiveOffset s f.head } (ruled arrival f s).1)
    else recounted { s.plan.regs with offsetRevs := s.plan.regs.offsetRevs + 1 } (ruled arrival f s).1 := by
  have step := ruled_step arrival f s n
  have plan := m.plan
  obtain ⟨-, recs, -, -, settings, -, -⟩ := ruled_same arrival f s
  generalize (ruled arrival f s).1 = u at step plan recs settings ⊢
  have old : effectiveOffset u f.head = effectiveOffset s f.head := effectiveOffset_congr recs f.head
  have closes := closeRevolution_offset (u := u) (h := f.head) (n := n) (by rw [plan]; exact m.current)
    (by rw [plan]; exact m.active) (by rw [step]; exact m.head) (by rw [step]; exact phase)
  rw [step, plan, settings, old] at closes
  exact closes

theorem verify_closes (phase : (planStep s n).phase = .verify) : closeRevolution f.head (ruled arrival f s).1 =
    if 2 ^ (planStep s n).m ≤ s.plan.regs.verifyRevs + 1 then
      endStep n (verifyOutcome (planStep s n) s.settings.wedges s.plan.regs)
        (recounted { s.plan.regs with verifyRevs := s.plan.regs.verifyRevs + 1 } (ruled arrival f s).1)
    else recounted { s.plan.regs with verifyRevs := s.plan.regs.verifyRevs + 1 } (ruled arrival f s).1 := by
  have step := ruled_step arrival f s n
  have plan := m.plan
  have settings := (ruled_same arrival f s).2.2.2.2.1
  generalize (ruled arrival f s).1 = u at step plan settings ⊢
  have closes := closeRevolution_verify (u := u) (h := f.head) (n := n) (by rw [plan]; exact m.current)
    (by rw [plan]; exact m.active) (by rw [step]; exact m.head) (by rw [step]; exact phase)
  rw [step, plan, settings] at closes
  exact closes

/-- A revolution that ends its step without an offset result. -/
theorem recounted_ends (bytes : Frame) {r : Registers} (going : o ≠ .aborted) (other : (planStep s n).phase ≠ .learn)
    (closes : closeRevolution f.head (ruled arrival f s).1 = endStep n o (recounted r (ruled arrival f s).1)) :
    StepEnded s (handleWedge arrival f bytes s) n o.failure ∧
      Result s (handleWedge arrival f bytes s) f n (phaseByte (planStep s n).phase) (BitVec.ofNat 8 o.code)
        (stepFigures n o (recounted r (ruled arrival f s).1)) ∧
      (handleWedge arrival f bytes s).headRecs = s.headRecs := by
  obtain ⟨ended, result⟩ := m.ends bytes going other (v := recounted r (ruled arrival f s).1) (r := r)
    (by rw [recounted, m.plan]; rfl) (ruled_same arrival f s).2.2.2.1 (.rest rfl rfl rfl rfl) rfl rfl closes
  exact ⟨ended, result, (m.endRecords bytes other closes).trans (ruled_same arrival f s).2.1⟩
end

/-! ### The figures (R131) -/

theorem stepFigures_settle (phase : (planStep v n).phase = .settle) : stepFigures n o v =
    ((v.plan.regs.settleUsed : Int), (v.plan.regs.settleTrips : Int), (v.plan.regs.settleClean : Int)) := by
  simp only [stepFigures, phase]

theorem stepFigures_verify (phase : (planStep v n).phase = .verify) : stepFigures n o v =
    ((v.plan.regs.verifyGreatest : Int), (verifyMean v.plan.regs : Int), (v.plan.regs.verifyCount : Int)) := by
  simp only [stepFigures, phase]

theorem stepFigures_measured (phase : (planStep v n).phase = .offset) : stepFigures n .passed v =
    (measuredOffset v.plan.regs, v.plan.regs.offsetOld, (v.plan.regs.offsetCount : Int)) := by
  simp only [stepFigures, phase, if_true]

theorem stepFigures_thin (phase : (planStep v n).phase = .offset) : stepFigures n .failedThin v =
    ((0 : Int), effectiveOffset v (planStep v n).head, (v.plan.regs.offsetCount : Int)) := by
  simp only [stepFigures, phase]
  rfl

/-! ### Each phase's ends -/

section
variable (m : Measured arrival f s n) (bytes : Frame)
include m

theorem settle_ends (phase : (planStep s n).phase = .settle) (going : o ≠ .aborted)
    (closes : closeRevolution f.head (ruled arrival f s).1 =
      endStep n o (recounted (settleRegs s.plan.regs) (ruled arrival f s).1)) :
    (StepEnded s (handleWedge arrival f bytes s) n o.failure ∧
      Result s (handleWedge arrival f bytes s) f n 1 (BitVec.ofNat 8 o.code) (((s.plan.regs.settleUsed + 1 : Nat) : Int),
        s.plan.regs.settleTrips, (settleRegs s.plan.regs).settleClean)) ∧
      (handleWedge arrival f bytes s).headRecs = s.headRecs := by
  obtain ⟨ended, result, recs⟩ := recounted_ends m bytes going (by rw [phase]; decide) closes
  rw [stepFigures_settle (v := recounted _ _) (by exact (congrArg PlanStep.phase (ruled_step arrival f s n)).trans phase),
    phase] at result
  exact ⟨⟨ended, result⟩, recs⟩

theorem verify_ends (phase : (planStep s n).phase = .verify) (last : 2 ^ (planStep s n).m ≤ s.plan.regs.verifyRevs + 1)
    (outcome : verifyOutcome (planStep s n) s.settings.wedges s.plan.regs = o) (going : o ≠ .aborted) :
    (StepEnded s (handleWedge arrival f bytes s) n o.failure ∧
      Result s (handleWedge arrival f bytes s) f n 4 (BitVec.ofNat 8 o.code)
        (s.plan.regs.verifyGreatest, verifyMean s.plan.regs, s.plan.regs.verifyCount)) ∧
      (handleWedge arrival f bytes s).headRecs = s.headRecs := by
  have closes := verify_closes m phase
  rw [if_pos last, outcome] at closes
  obtain ⟨ended, result, recs⟩ := recounted_ends m bytes going (by rw [phase]; decide) closes
  rw [stepFigures_verify (v := recounted _ _) (by exact (congrArg PlanStep.phase (ruled_step arrival f s n)).trans phase),
    phase] at result
  exact ⟨⟨ended, result⟩, recs⟩

theorem offset_thin (phase : (planStep s n).phase = .offset) {r : Registers} (count : r.offsetCount = s.plan.regs.offsetCount)
    (closes : closeRevolution f.head (ruled arrival f s).1 = endStep n .failedThin (recounted r (ruled arrival f s).1)) :
    StepEnded s (handleWedge arrival f bytes s) n true ∧ (handleWedge arrival f bytes s).headRecs = s.headRecs ∧
      Result s (handleWedge arrival f bytes s) f n 2 4 (0, effectiveOffset s f.head, s.plan.regs.offsetCount) := by
  obtain ⟨ended, result, recs⟩ := recounted_ends m bytes (by decide) (by rw [phase]; decide) closes
  have step : planStep (recounted r (ruled arrival f s).1) n = planStep s n := ruled_step arrival f s n
  have same : (recounted r (ruled arrival f s).1).headRecs = s.headRecs := (ruled_same arrival f s).2.1
  have old : effectiveOffset (recounted r (ruled arrival f s).1) f.head = effectiveOffset s f.head :=
    effectiveOffset_congr same f.head
  rw [stepFigures_thin (by rw [step]; exact phase), step, m.head, old, phase,
    show (recounted r (ruled arrival f s).1).plan.regs = r from rfl, count] at result
  exact ⟨ended, recs, result⟩

theorem offset_passes (phase : (planStep s n).phase = .offset) {r : Registers} {x : Int}
    (registers : r.offsetCount = s.plan.regs.offsetCount ∧ r.offsetOld = effectiveOffset s f.head ∧ measuredOffset r = x)
    (closes : closeRevolution f.head (ruled arrival f s).1 =
      endStep n .passed (writeMeasuredOffset f.head x (recounted r (ruled arrival f s).1))) :
    StepEnded s (handleWedge arrival f bytes s) n false ∧
      Result s (handleWedge arrival f bytes s) f n 2 1 (x, effectiveOffset s f.head, s.plan.regs.offsetCount) ∧
      (handleWedge arrival f bytes s).headRecs = (writeMeasuredOffset f.head x s).headRecs := by
  obtain ⟨count, old, value⟩ := registers
  have step : planStep (recounted r (ruled arrival f s).1) n = planStep s n := ruled_step arrival f s n
  have same : (recounted r (ruled arrival f s).1).headRecs = s.headRecs := (ruled_same arrival f s).2.1
  have plan : (recounted r (ruled arrival f s).1).plan = { s.plan with regs := r } := by
    rw [recounted, m.plan]
    rfl
  have steps : (recounted r (ruled arrival f s).1).steps = s.steps := (ruled_same arrival f s).2.2.2.1
  have rest : Carried {} (ruled arrival f s).1 (recounted r (ruled arrival f s).1) := .rest rfl rfl rfl rfl
  have places : (recounted r (ruled arrival f s).1).out = (ruled arrival f s).1.out ∧
    (recounted r (ruled arrival f s).1).clock = (ruled arrival f s).1.clock := ⟨rfl, rfl⟩
  generalize recounted r (ruled arrival f s).1 = v at closes step same plan steps rest places
  have written : (writeMeasuredOffset f.head x v).headRecs = (writeMeasuredOffset f.head x s).headRecs := by
    rw [writeMeasuredOffset_eq, writeMeasuredOffset_eq, measuredRec_congr same]
    exact congrArg (Table.set {} · f.head _) same
  rw [writeMeasuredOffset_eq] at closes
  have other : (planStep s n).phase ≠ .learn := by rw [phase]; decide
  obtain ⟨ended, result⟩ := m.ends bytes (v := setHeadRec f.head (measuredRec v f.head x) v) (r := r) (by decide) other plan steps
    (rest.trans (.rest rfl rfl rfl rfl)) places.1 places.2 closes
  have recs := m.endRecords bytes other closes
  rw [← writeMeasuredOffset_eq, written] at recs
  have regs : (setHeadRec f.head (measuredRec v f.head x) v).plan.regs = r := congrArg Plan.regs plan
  rw [stepFigures_measured (by exact (congrArg PlanStep.phase step).trans phase), regs, value, old, count, phase] at result
  exact ⟨ended, result, recs⟩
end

/-! ### Clean revolutions in a row (R126) -/

/-- The registers after `j` clean revolutions. -/
def cleanRegs (j : Nat) (g : Registers) : Registers := { g with settleUsed := j, settleClean := j, settleMark := false }

section
variable (current : s.plan.current = some n) (active : s.plan.sub = some .active) (phase : (planStep s n).phase = .settle)
include current active phase

/-- One more clean revolution. -/
theorem closeRevolution_clean (j : Nat) :
    closeRevolution (planStep s n).head (recounted (cleanRegs j s.plan.regs) s) =
      if settleLimit (planStep s n).limitA ≤ j + 1 then endStep n .passed (recounted (cleanRegs (j + 1) s.plan.regs) s)
      else recounted (cleanRegs (j + 1) s.plan.regs) s := by
  refine (closeRevolution_settle (u := recounted (cleanRegs j s.plan.regs) s) (n := n) current active rfl phase).trans ?_
  show (if settleLimit (planStep s n).limitA ≤ j + 1 then endStep n .passed (recounted (cleanRegs (j + 1) s.plan.regs) s)
    else if 4 * settleLimit (planStep s n).limitA ≤ j + 1 then
      endStep n .timeoutSettle (recounted (cleanRegs (j + 1) s.plan.regs) s)
    else recounted (cleanRegs (j + 1) s.plan.regs) s) = _
  by_cases ends : settleLimit (planStep s n).limitA ≤ j + 1
  · rw [if_pos ends, if_pos ends]
  · rw [if_neg ends, if_neg ends]
    exact if_neg fun late => ends (by omega)

/-- Fewer than A clean revolutions in a row leave the step ACTIVE. -/
theorem cleanRevolutions (cleared : cleanRegs 0 s.plan.regs = s.plan.regs) {j : Nat}
    (few : j < settleLimit (planStep s n).limitA) :
    (closeRevolution (planStep s n).head)^[j] s = recounted (cleanRegs j s.plan.regs) s := by
  induction j with
  | zero =>
    rw [cleared]
    rfl
  | succ j ih =>
    rw [Function.iterate_succ_apply', ih (by omega), closeRevolution_clean current active phase, if_neg (by omega)]
end

/-- An OFFSET measurement of enough frames: the rounded mean written to its head (R128). -/
theorem offset_measured (m : Measured arrival f s n) (bytes : Frame) (phase : (planStep s n).phase = .offset)
    (some : 0 < s.plan.regs.offsetCount) (last : 2 ^ (planStep s n).m ≤ s.plan.regs.offsetRevs + 1)
    (enough : s.settings.wedges * 2 ^ (planStep s n).m ≤ 2 * s.plan.regs.offsetCount) :
    StepEnded s (handleWedge arrival f bytes s) n false ∧ ∃ v, Rounded v s.plan.regs.offsetSum s.plan.regs.offsetCount ∧
      Result s (handleWedge arrival f bytes s) f n 2 1 (v, effectiveOffset s f.head, s.plan.regs.offsetCount) ∧
      (headRec (handleWedge arrival f bytes s) f.head).offsetValid = true ∧
      (∀ k, k ≠ f.head → headRec (handleWedge arrival f bytes s) k = headRec s k) ∧
      effectiveOffset (handleWedge arrival f bytes s) f.head =
        if tracking s f.head then clampOffset ((headRec s (headRec s f.head).refHead).ownOffset +
          clampOffset (v - (headRec s (headRec s f.head).refHead).ownOffset))
        else clampOffset v := by
  have closes := offset_closes m phase
  rw [if_pos last, if_pos enough] at closes
  obtain ⟨ended, reported, recs⟩ := offset_passes m bytes phase (x := measuredOffset s.plan.regs) (r := { s.plan.regs with
    offsetRevs := s.plan.regs.offsetRevs + 1, offsetOld := effectiveOffset s f.head }) ⟨rfl, rfl, rfl⟩ closes
  have recAt : ∀ k, headRec (handleWedge arrival f bytes s) k =
      if k = f.head then measuredRec s f.head (measuredOffset s.plan.regs) else headRec s k := fun k => by
    rw [headRec, recs, writeMeasuredOffset_eq]
    exact Laws.headRec_setHeadRec _ _ _ _
  refine ⟨ended, measuredOffset s.plan.regs, Rounding.roundDiv_rounded _ some, reported, ?_, fun k away => ?_, ?_⟩
  · rw [recAt, if_pos rfl]
    exact (Figures.measuredRec_same s f.head _).2.2
  · rw [recAt, if_neg away]
  · rw [effectiveOffset_congr recs, Figures.effectiveOffset_measured]

/-- Settles O44: each phase's revolution at an event of its head, and A clean revolutions in a row. -/
theorem measurementsEndAtTheirLastRevolution : Obligations.MeasurementsEndAtTheirLastRevolution := by
  constructor
  · intro s arrival n f r p g half result arrives held eligible index steady current active head
    have m : Measured arrival r s n := ⟨held, eligible, index, steady, current, active, head⟩
    refine ⟨handleWedge arrival r f.bytes s, by rw [exec_arrived arrives]; exact congrArg _ (if_pos eligible),
      m.follows f.bytes, ?_, ?_, ?_⟩
    · intro phase a used clean
      have closes := settle_closes m phase
      have other : p.phase ≠ .learn := by rw [phase]; decide
      by_cases passes : a ≤ clean
      · obtain ⟨ended, recs⟩ := settle_ends m f.bytes phase (by decide) (closes.trans (if_pos passes))
        exact ⟨recs, fun _ => ended, fun low => absurd low (Nat.not_lt.mpr passes), fun low => absurd low (Nat.not_lt.mpr passes)⟩
      · rw [if_neg (show ¬settleLimit p.limitA ≤ (settleRegs g).settleClean from passes)] at closes
        by_cases late : 4 * a ≤ used
        · obtain ⟨ended, recs⟩ := settle_ends m f.bytes phase (by decide) (closes.trans (if_pos late))
          exact ⟨recs, fun enough => absurd enough passes, fun _ _ => ended, fun _ early => absurd early (Nat.not_lt.mpr late)⟩
        · obtain ⟨goesOn, recs, fed⟩ := m.goesOn f.bytes other (closes.trans (if_neg late))
          rw [phase] at fed
          exact ⟨recs, fun enough => absurd enough passes, fun _ enough => absurd enough late, fun _ _ => ⟨goesOn, fed⟩⟩
    · intro phase wedges old clip o
      have closes := offset_closes m phase
      have other : p.phase ≠ .learn := by rw [phase]; decide
      by_cases last : 2 ^ p.m ≤ g.offsetRevs + 1
      · by_cases enough : half ≤ 2 * g.offsetCount
        · have some : 0 < g.offsetCount := by
            have positive : 0 < half := Nat.mul_pos wedges (Nat.two_pow_pos p.m)
            omega
          have measured := offset_measured m f.bytes phase some last enough
          simp only [Figures.clampOffset_eq] at measured
          exact ⟨fun more => absurd more (Nat.not_lt.mpr last), fun _ _ => measured,
            fun _ few => absurd few (Nat.not_lt.mpr enough)⟩
        · rw [if_pos last] at closes
          obtain ⟨ended, recs, reported⟩ := offset_thin m f.bytes phase (r := { g with
            offsetRevs := g.offsetRevs + 1, offsetOld := old }) rfl (closes.trans (if_neg enough))
          exact ⟨fun more => absurd more (Nat.not_lt.mpr last), fun _ much => absurd much enough, fun _ _ => ⟨ended, recs, reported⟩⟩
      · obtain ⟨goesOn, recs, fed⟩ := m.goesOn f.bytes other (closes.trans (if_neg last))
        rw [phase] at fed
        exact ⟨fun _ => ⟨goesOn, recs, fed⟩, fun ends => absurd ends last, fun ends => absurd ends last⟩
    · intro phase mean beyond
      by_cases last : 2 ^ p.m ≤ g.verifyRevs + 1
      · have ends := fun o => verify_ends (o := o) m f.bytes phase last
        by_cases few : 2 * g.verifyCount < half
        · obtain ⟨ended, recs⟩ := ends .failedThin (if_pos few) (by decide)
          exact ⟨recs, fun more => absurd more (Nat.not_lt.mpr last), fun _ _ => ended,
            fun _ much => absurd few (Nat.not_lt.mpr much), fun _ much => absurd few (Nat.not_lt.mpr much)⟩
        · by_cases above : beyond
          · obtain ⟨ended, recs⟩ := ends .failedLimit ((if_neg few).trans (if_pos above)) (by decide)
            exact ⟨recs, fun more => absurd more (Nat.not_lt.mpr last), fun _ thin => absurd thin few, fun _ _ _ => ended,
              fun _ _ within => absurd above within⟩
          · obtain ⟨ended, recs⟩ := ends .passed ((if_neg few).trans (if_neg above)) (by decide)
            exact ⟨recs, fun more => absurd more (Nat.not_lt.mpr last), fun _ thin => absurd thin few,
              fun _ _ out => absurd out above, fun _ _ _ => ended⟩
      · obtain ⟨goesOn, recs, fed⟩ := m.goesOn f.bytes (by rw [phase]; decide) ((verify_closes m phase).trans (if_neg last))
        rw [phase] at fed
        exact ⟨recs, fun _ => ⟨goesOn, fed⟩, fun ends => absurd ends last, fun ends => absurd ends last, fun ends => absurd ends last⟩
  · intro s n j p a t current active phase used clean mark
    have cleared : cleanRegs 0 s.plan.regs = s.plan.regs := by
      generalize s.plan.regs = g at used clean mark ⊢
      cases g
      cases used
      cases clean
      cases mark
      rfl
    refine ⟨fun few => ?_, fun all => ?_⟩
    · have state : t = recounted (cleanRegs j s.plan.regs) s := cleanRevolutions current active phase cleared few
      rw [state]
      exact ⟨current, active, rfl, rfl⟩
    · have some : 1 ≤ a := by
        show 1 ≤ if p.limitA = 0 then 1 else min p.limitA 255
        split <;> omega
      obtain ⟨i, rfl⟩ : ∃ i, j = i + 1 := ⟨j - 1, by omega⟩
      have state : t = endStep n .passed (recounted (cleanRegs (i + 1) s.plan.regs) s) := by
        show (closeRevolution (planStep s n).head)^[i + 1] s = _
        rw [Function.iterate_succ_apply', cleanRevolutions current active phase cleared (show i < a by omega),
          closeRevolution_clean current active phase]
        exact if_pos (le_of_eq all.symm)
      have ended := stepEnded_endStep (o := .passed) (recounted (cleanRegs (i + 1) s.plan.regs) s) n (by decide)
      rw [state]
      exact ⟨ended.last, ended.ended, ended.failures⟩

end Sys2Proof.Measurements
end

section
/-! PROOFS. The apply of a pending solve at an index frame of the bound head: entries, fold, PASS_SUMMARY, and the step's end or the
next pass (R47, R89, R90, R93, R130). -/

namespace Sys2Proof.Applies

set_option Elab.async false

open Sys2Proof.Machine Sys2Proof.Safety Sys2Proof.Traffic Sys2Proof.Notices Sys2Proof.Frames Sys2Proof.Misses
  Sys2Proof.Classes Sys2Proof.Samplings Sys2Proof.Activations Sys2Proof.Passes Sys2Proof.Closings Sys2Proof.Measurements
  Sys2Proof.PlanSteps Sys2Proof.Outcomes Sys2Proof.Offsets

variable {s t u w : State} {arrival : Nat} {f : WedgeRead} {b : Binding} {p : PassParams} {v : PendingSolve} {h n : Nat}

/-! ### What stages 1 and 2 report (R62, R72) -/

/-- A clock that stands announces its lock at most. -/
theorem acquireFrame_report (busy : s.out.sending.isSome = true) (arrival w : Nat) (index : Bool) :
    ∃ before : List Frame, before.length ≤ 1 ∧
      (s.out.report.length < 32 → (acquireFrame arrival w index s).out.report = s.out.report ++ before) := by
  obtain ⟨g, sending⟩ := Option.isSome_iff_exists.mp busy
  by_cases ends : index = true ∧ s.clock.state = .acquiring ∧ ∃ a, s.clock.acquisition = some a
  · obtain ⟨index, state, a, started⟩ := ends
    subst index
    rw [Rulings.acquireFrame_ends state started, endMeasurement]
    split
    · exact ⟨_, le_rfl, fun room => (Rulings.lockClock_announces arrival a _).2.2 g sending room⟩
    · exact ⟨[], Nat.zero_le 1, fun _ => (List.append_nil _).symm⟩
  · refine ⟨[], Nat.zero_le 1, fun _ => ?_⟩
    have carried := Rulings.acquireFrame_carried_rest (s := s) (index := index) (fun index state => by
      rcases started : s.clock.acquisition with _ | a
      · rfl
      · exact absurd ⟨index, state, a, started⟩ ends) arrival w
    rw [carried.report_eq rfl sending, List.append_nil]

/-- Before stage 3 an eligible index frame reports its lock at most. -/
theorem ruled_report (eligible : eligible s f.head f.wedge = true) (index : f.index = true) (arrival : Nat)
    (busy : s.out.sending.isSome = true) (room : s.out.report.length < 32)
    (clean : ∀ c ∈ s.defects, c.2.head = f.head → c.2.state ≠ .suspect) : ∃ before : List Frame, before.length ≤ 1 ∧
      (s.clock.state.running = true → before = []) ∧
      (ruled arrival f s).1.out.report = s.out.report ++ before := by
  by_cases running : s.clock.state.running = true
  · refine ⟨[], Nat.zero_le 1, fun _ => rfl, ?_⟩
    rw [(ruled_event_report eligible index running arrival).2 busy clean, List.append_nil]
  · obtain ⟨g, sending⟩ := Option.isSome_iff_exists.mp busy
    have found := contextFound_carried f s
    have clock : (contextFound f s).clock = s.clock := by simp [contextFound]
    have sends := found.sending sending
    have report := found.report_eq rfl sending
    have stopped : (contextFound f s).clock.state.running = false := by rw [clock]; exact Bool.not_eq_true _ ▸ running
    obtain ⟨before, few, announced⟩ := acquireFrame_report (by rw [sends]; rfl) arrival f.wedge f.index (s := contextFound f s)
    refine ⟨before, few, fun runs => absurd runs running, ?_⟩
    have stage : (ruled arrival f s).1 = acquireFrame arrival f.wedge f.index (contextFound f s) := by
      rw [ruled, Hits.clockStage_eq, ← Rulings.ruleStage_stopped stopped]
      refine if_neg ?_
      rw [ruleStage_result, stopped]
      nofun
    rw [stage, announced (by rw [report]; exact room), report]

/-! ### Stage 3 -/

theorem readCounter_applySolve (hb : s.engine.binding = some b) (hp : s.engine.params = some p)
    (hv : s.engine.pendingSolve = some v) :
    readCounter (applySolve s).1 22 = saturated (readCounter s 22) v.thin := by
  simp only [applySolve, hb, hp, hv]
  have folded : ∀ u : State, u = (if p.fold = true then foldOffset b.head v.meanFold (writeEntries b.head v.entries s)
      else writeEntries b.head v.entries s) → u.alerts = s.alerts := fun u e => by
    rw [e]
    split <;> simp
  generalize (if p.fold = true then foldOffset b.head v.meanFold (writeEntries b.head v.entries s)
    else writeEntries b.head v.entries s) = u at folded ⊢
  have offered := (offerReport_carried 2 (passSummary b s.engine.passNumber v) (bumpBy .thinWedges v.thin u)).counter_eq
    (c := .thinWedges) (by decide)
  have counted : readCounter (bumpBy .thinWedges v.thin u) 22 = saturated (readCounter u 22) v.thin :=
    (Laws.readCounter_bumpBy .thinWedges v.thin 22 u).trans (if_pos (by rfl))
  refine (show _ = _ from offered).trans (counted.trans ?_)
  rw [readCounter, folded u rfl]
  rfl

/-- The PASS_SUMMARY goes in behind what the frame reported before. -/
theorem applySolve_report (hb : s.engine.binding = some b) (hp : s.engine.params = some p)
    (hv : s.engine.pendingSolve = some v) (busy : s.out.sending.isSome = true) (room : s.out.report.length < 32) :
    (applySolve s).1.out.report =
      s.out.report ++ [reportBytes 2 s.clock.stamp (passSummary b s.engine.passNumber v)] := by
  simp only [applySolve, hb, hp, hv]
  have folded : ∀ u : State, u = (if p.fold = true then foldOffset b.head v.meanFold (writeEntries b.head v.entries s)
      else writeEntries b.head v.entries s) → u.out = s.out ∧ u.clock = s.clock := fun u e => by
    rw [e]
    split <;> simp
  generalize (if p.fold = true then foldOffset b.head v.meanFold (writeEntries b.head v.entries s)
    else writeEntries b.head v.entries s) = u at folded ⊢
  obtain ⟨out, clock⟩ := folded u rfl
  rw [offerReport_busy (s := bumpBy .thinWedges v.thin u) (by rw [← out] at busy; exact busy) (by rw [← out] at room; exact room),
    ← out, ← clock]
  rfl

/-! ### The frame that applies -/

/-- An eligible index frame of the bound head, with a solve of every wedge pending. -/
structure Applying (arrival : Nat) (f : WedgeRead) (s : State) (b : Binding) (p : PassParams) (v : PendingSolve) : Prop where
  eligible : eligible s f.head f.wedge = true
  index : f.index = true
  pass : s.engine.pass = .solve
  binding : s.engine.binding = some b
  head : b.head = f.head
  params : s.engine.params = some p
  pending : s.engine.pendingSolve = some v

/-- The tallies the apply leaves (R130). -/
def tallied (v : PendingSolve) (y : Tallies) : Tallies :=
  { applied := y.applied + 1, largest := v.largest, foldTotal := y.foldTotal + v.meanFold }

/-- The plan a frame's notices leave: a returned step aside, the plan it found. -/
theorem ruled_plan_rest (arrival : Nat) (f : WedgeRead) (s : State) : (ruled arrival f s).1.plan =
    { s.plan with
      sub := (ruled arrival f s).1.plan.sub
      regs := (ruled arrival f s).1.plan.regs
      waitTimer := (ruled arrival f s).1.plan.waitTimer } := by
  have rest : ∀ (steps : Table PlanStep) (q : Plan), returned steps q = { q with
      sub := (returned steps q).sub
      regs := (returned steps q).regs
      waitTimer := (returned steps q).waitTimer } := fun steps q => by
    unfold returned
    split <;> rfl
  rw [ruled_plan, planFound_eq]
  split
  · exact rest _ _
  · rfl

namespace Applying
variable (a : Applying arrival f s b p v)
include a

theorem engine : (ruled arrival f s).1.engine = s.engine := by
  rw [ruled_engine, engineFound_eq, Departures.discarded_other (by rw [a.pass]; nofun), ite_self]

theorem taken : applied arrival f s = applySolve (ruled arrival f s).1 := by
  have bound : boundTo (ruled arrival f s).1 f.head = true :=
    Samples.boundTo_iff.mpr ⟨b, (congrArg Engine.binding a.engine).trans a.binding, a.head⟩
  refine if_pos ?_
  rw [a.index, bound, a.engine, a.pass]
  rfl

/-- Stage 3 in parts. -/
theorem leaves : (applied arrival f s).2 = some (afterApply p s.engine.passNumber v) ∧
    (applied arrival f s).1.engine = { s.engine with
      pendingSolve := none
      pass := .ready
      passNumber := if afterApply p s.engine.passNumber v = .further then s.engine.passNumber + 1 else s.engine.passNumber
      revs := 0 } ∧
    (applied arrival f s).1.plan = { (ruled arrival f s).1.plan with tallies := tallied v s.plan.tallies } ∧
    (applied arrival f s).1.headRecs =
      (if p.fold then Table.set {} s.headRecs f.head (foldedRec s f.head v.meanFold) else s.headRecs) ∧
    (applied arrival f s).1.runout = Table.setAll 0 s.runout (f.head * 512) v.entries ∧
    readCounter (applied arrival f s).1 22 = saturated (readCounter s 22) v.thin := by
  have engine := a.engine
  have rest := congrArg Plan.tallies (ruled_plan_rest arrival f s)
  obtain ⟨runout, recs, -⟩ := ruled_same arrival f s
  have counter : readCounter (ruled arrival f s).1 22 = readCounter s 22 :=
    (ruled_carried arrival f s).counter_eq (c := .thinWedges) (by decide)
  rw [a.taken]
  generalize (ruled arrival f s).1 = u at engine rest runout recs counter ⊢
  have hb : u.engine.binding = some b := by rw [engine]; exact a.binding
  have hp : u.engine.params = some p := by rw [engine]; exact a.params
  have hv : u.engine.pendingSolve = some v := by rw [engine]; exact a.pending
  obtain ⟨engineA, plan, recsA⟩ := PlanLaw.applySolve_leaves hb hp hv
  obtain ⟨entries, next⟩ := Laws.applySolve_runout u b p v hb hp hv
  rw [engine] at next engineA
  refine ⟨next, engineA, ?_, ?_, ?_, ?_⟩
  · rw [plan, show u.plan.tallies = s.plan.tallies from rest]
    rfl
  · rw [recsA, recs, a.head, foldedRec_congr recs]
  · rw [entries, runout, a.head]
    rfl
  · rw [readCounter_applySolve hb hp hv, counter]

/-! #### Entries, counter, solve, validity -/

theorem entries (bytes : Frame) (k : Nat) : runoutEntry (handleWedge arrival f bytes s) h k =
    Table.get 0 (Table.setAll 0 s.runout (f.head * 512) v.entries) (h * 512 + k) := by
  obtain ⟨-, -, -, -, entries, -⟩ := a.leaves
  rw [runoutEntry, (Eligibles.handleWedge_records arrival f bytes s).2.1, (learned_same arrival f s).1,
    ← (applied_computed arrival f s).1, entries]
  rfl

theorem thin (bytes : Frame) : readCounter (handleWedge arrival f bytes s) 22 = saturated (readCounter s 22) v.thin := by
  obtain ⟨-, -, -, -, -, counted⟩ := a.leaves
  have planned : readCounter (planned arrival f s) 22 = readCounter (applied arrival f s).1 22 :=
    (planStage_carried _ _ _ _).counter_eq (c := .thinWedges) (by decide)
  exact ((handleWedge_trailing arrival f bytes s).counter_eq (c := .thinWedges) (by decide)).trans (planned.trans counted)

end Applying

/-- Where no pass runs, stage 5 begins one or leaves learning as it is. -/
theorem engineStage_idle (idle : s.engine.pass = .unbound ∨ s.engine.pass = .ready) (h : Nat) (event further : Bool) :
    engineStage h event further s = s ∨ ∃ n, engineStage h event further s = beginPass h n s := by
  unfold engineStage
  split
  · next pass => simp [pass] at idle
  · exact .inl rfl
  all_goals
    split
    · split
      · next n _ => exact .inr ⟨n, rfl⟩
      · exact .inl rfl
    · exact .inl rfl

theorem begun_pending (h n : Nat) (steps : Table PlanStep) (e : Engine) : (begun h n steps e).pendingSolve = e.pendingSolve := by
  unfold begun
  split <;> rfl

theorem applied_step (arrival : Nat) (f : WedgeRead) (s : State) (n : Nat) :
    planStep (applied arrival f s).1 n = planStep s n := by
  have steps : (applied arrival f s).1.steps = s.steps := by simp [applied]
  rw [planStep, planStep, steps]

/-- A LEARN step's end as an apply decided it (R90). -/
def concludedBy (n : Nat) (after : AfterApply) (s : State) : State :=
  match after with
  | .converged => endStep n .converged s
  | .completed => endStep n .completed s
  | .further => s

theorem closeStage_learn (current : s.plan.current = some n) (learn : (planStep s n).phase = .learn) (h : Nat) (event : Bool)
    (after : AfterApply) : closeStage h event (some after) s = concludedBy n after s := by
  unfold closeStage endLearn concludedBy
  rw [current]
  cases after with
  | further =>
    rw [closeRevolution_learn current learn]
    exact ite_self s
  | _ => simp

/-- A valid offset stays valid through stage 4. -/
theorem planStage_valid (event : Bool) (after : Option AfterApply) (valid : (headRec s h).offsetValid = true) :
    (headRec (planStage h event after s) h).offsetValid = true := by
  have stage : (planStage h event after s).headRecs = (closeStage h event after s).headRecs := by
    rw [planStage_eq]
    split <;> simp
  rw [headRec, stage, ← headRec]
  rcases closeStage_cases h event after s with ⟨n, o, -, -, e⟩ | closed
  · rw [e, headRec, (Laws.endStep_frame n o s).2.2.2.1]
    exact valid
  · generalize closeStage h event after s = t at closed ⊢
    cases closed with
    | same => exact valid
    | counted n r => exact valid
    | ended n r o => simpa [headRec] using valid
    | written n r x =>
      simp only [headRec, writeMeasuredOffset_eq, Laws.endStep_frame]
      simp [setHeadRec, Laws.get_set_same, (Figures.measuredRec_same _ _ _).2.2]

namespace Applying
variable (a : Applying arrival f s b p v)
include a

/-- The solve is gone (R89). -/
theorem solved (bytes : Frame) : (handleWedge arrival f bytes s).engine.pendingSolve = none := by
  obtain ⟨-, engine, -⟩ := a.leaves
  have cleared : (applied arrival f s).1.engine.pendingSolve = none ∧ (applied arrival f s).1.engine.pass = .ready := by
    rw [engine]
    exact ⟨rfl, rfl⟩
  have planned : (planned arrival f s).engine.pendingSolve = none ∧
      ((planned arrival f s).engine.pass = .unbound ∨ (planned arrival f s).engine.pass = .ready) := by
    rcases planStage_engine f.head (ruled arrival f s).2.event (applied arrival f s).2 (applied arrival f s).1 with e | ⟨n, -, e⟩
    · rw [planned, e]
      exact ⟨cleared.1, .inr cleared.2⟩
    · rw [planned, e]
      unfold unboundBy
      split
      · split
        · exact ⟨rfl, .inl rfl⟩
        · exact ⟨cleared.1, .inr cleared.2⟩
      · exact ⟨cleared.1, .inr cleared.2⟩
  rw [(handleWedge_engine_cells arrival f bytes s).1]
  show (learned arrival f s).engine.pendingSolve = none
  rcases engineStage_idle planned.2 f.head (ruled arrival f s).2.event ((applied arrival f s).2 == some .further) with e | ⟨n, e⟩
  · rw [learned, e]
    exact planned.1
  · rw [learned, e, beginPass_begun, begun_pending]
    exact planned.1

/-- A pass with fold makes the offset valid (R47). -/
theorem valid (bytes : Frame) (fold : p.fold = true) : (headRec (handleWedge arrival f bytes s) f.head).offsetValid = true := by
  obtain ⟨-, -, -, recs, -⟩ := a.leaves
  rw [headRec, (handleWedge_planned arrival f bytes s).1, ← headRec]
  refine planStage_valid _ _ ?_
  rw [headRec, recs, if_pos fold, Laws.get_set_same]
  exact (Figures.foldedRec_same s f.head v.meanFold).2.2

/-! #### Stage 4 in a part that stands as PlanHeld says -/

/-- The bound step is the current one, a LEARN step of the head. -/
theorem step (held : PlanHeld s) : s.plan.current = some b.step ∧ (planStep s b.step).phase = .learn ∧
    (planStep s b.step).head = f.head := by
  obtain ⟨current, learn, head⟩ := held.bound b a.binding
  exact ⟨current, learn, head.trans a.head⟩

/-- Stage 4: the step ends, or nothing is closed. -/
theorem planned (held : PlanHeld s) : planned arrival f s = activated f.head (ruled arrival f s).2.event
    (concludedBy b.step (afterApply p s.engine.passNumber v) (applied arrival f s).1) := by
  obtain ⟨current, learn, -⟩ := a.step held
  obtain ⟨next, -, plan, -⟩ := a.leaves
  have found : (applied arrival f s).1.plan.current = some b.step := by
    rw [plan]
    exact (congrArg Plan.current (ruled_plan_rest arrival f s)).trans current
  rw [planned_eq, next, closeStage_learn found ((congrArg PlanStep.phase (applied_step arrival f s b.step)).trans learn)]

/-- Records are as stage 3 leaves them. -/
theorem records (held : PlanHeld s) (bytes : Frame) :
    (handleWedge arrival f bytes s).headRecs = (applied arrival f s).1.headRecs := by
  rw [(handleWedge_planned arrival f bytes s).1, a.planned held, (activated_rest _ _ _).1]
  show (concludedBy b.step _ _).headRecs = _
  unfold concludedBy
  split <;> simp

/-- The effective offset a pass with fold leaves (R47). -/
theorem folded (held : PlanHeld s) (bytes : Frame) (fold : p.fold = true) :
    effectiveOffset (handleWedge arrival f bytes s) f.head =
      if tracking s f.head then clampOffset ((headRec s (headRec s f.head).refHead).ownOffset +
        clampOffset ((headRec s f.head).offsetDiff + v.meanFold))
      else clampOffset (effectiveOffset s f.head + v.meanFold) := by
  obtain ⟨-, -, -, recs, -⟩ := a.leaves
  have same : (handleWedge arrival f bytes s).headRecs = (foldOffset f.head v.meanFold s).headRecs := by
    rw [a.records held, recs, if_pos fold, foldOffset_eq]
    rfl
  rw [effectiveOffset_congr same, Figures.effectiveOffset_fold]

/-- The PASS_SUMMARY behind what stages 1 and 2 report. -/
theorem summary (busy : s.out.sending.isSome = true) (room : s.out.report.length ≤ 29)
    (clean : ∀ c ∈ s.defects, c.2.head = f.head → c.2.state ≠ .suspect) : ∃ before : List Frame,
      (s.clock.state.running = true → before = []) ∧
      (applied arrival f s).1.out.report = s.out.report ++ before ++
        [reportBytes 2 (ruled arrival f s).1.clock.stamp (passSummary b s.engine.passNumber v)] ∧
      (applied arrival f s).1.out.report.length < 32 := by
  obtain ⟨before, few, announced, report⟩ := ruled_report a.eligible a.index arrival busy (by omega) clean
  obtain ⟨g, sending⟩ := Option.isSome_iff_exists.mp busy
  have sends := (ruled_carried arrival f s).sending sending
  have engine := a.engine
  have entered : (applied arrival f s).1.out.report = s.out.report ++ before ++
      [reportBytes 2 (ruled arrival f s).1.clock.stamp (passSummary b s.engine.passNumber v)] := by
    rw [a.taken]
    generalize (ruled arrival f s).1 = u at engine report sends ⊢
    rw [applySolve_report (by rw [engine]; exact a.binding) (by rw [engine]; exact a.params) (by rw [engine]; exact a.pending)
      (by rw [sends]; rfl) (by rw [report, List.length_append]; omega), report, engine]
  refine ⟨before, announced, entered, ?_⟩
  rw [entered, List.length_append, List.length_append, List.length_singleton]
  omega

/-! #### The step ends (R90, R123, R130) -/

/-- The figures of a LEARN step's end. -/
theorem result (held : PlanHeld s) (o : StepOutcome) : resultOf b.step o (applied arrival f s).1 =
    reportBytes 5 (ruled arrival f s).1.clock.stamp (resultRecord b.step f.head 3 (BitVec.ofNat 8 o.code)
      (((s.plan.tallies.applied + 1 : Nat) : Int)) v.largest (s.plan.tallies.foldTotal + v.meanFold)) := by
  obtain ⟨-, learn, head⟩ := a.step held
  obtain ⟨-, -, plan, -⟩ := a.leaves
  have figures : stepFigures b.step o (applied arrival f s).1 = ((((s.plan.tallies.applied + 1 : Nat) : Int)), (v.largest : Int),
      s.plan.tallies.foldTotal + v.meanFold) := by
    simp only [stepFigures, applied_step, learn, plan]
    rfl
  have stamp : (applied arrival f s).1.clock = (ruled arrival f s).1.clock := by simp [applied]
  rw [resultOf, stepResult_eq, figures, applied_step, learn, head, stamp]
  rfl

variable {o : StepOutcome} (ends : concludedBy b.step (afterApply p s.engine.passNumber v) (applied arrival f s).1 =
  endStep b.step o (applied arrival f s).1)
include ends

/-- StepEnded, and the STEP_RESULT behind the PASS_SUMMARY. -/
theorem ended (held : PlanHeld s) (bytes : Frame) (going : o ≠ .aborted) :
    StepEnded s (handleWedge arrival f bytes s) b.step o.failure ∧
      (s.out.sending.isSome = true → (applied arrival f s).1.out.report.length < 32 → ∃ after,
        (handleWedge arrival f bytes s).out.report =
          (applied arrival f s).1.out.report ++ resultOf b.step o (applied arrival f s).1 :: after) := by
  have shape := a.planned held
  rw [ends] at shape
  obtain ⟨-, -, plan, -⟩ := a.leaves
  have carried : Carried { clocks with counters := .thinWedges :: clocks.counters } s (applied arrival f s).1 :=
    ((ruled_carried arrival f s).mono (by decide)).andThen (applyStage_carried f.head f.index _)
  refine handleWedge_ends bytes going shape carried (by decide) (by simp [applied]) ?_
  rw [plan, ruled_plan_rest]
  exact ⟨rfl, rfl, rfl⟩

/-- The step entered at the frame, where it is ACTIVE. -/
theorem follows (held : PlanHeld s) (bytes : Frame)
    (entered : (handleWedge arrival f bytes s).plan.current = some (b.step + 1)) :
    (handleWedge arrival f bytes s).plan.sub = some .active ↔
      (planStep s (b.step + 1)).head = f.head ∧ becomesActive arrival f s = true := by
  obtain ⟨current, -, head⟩ := a.step held
  have shape := a.planned held
  rw [ends] at shape
  have own : stepHead s = some f.head := by
    rw [stepHead, current, ← head]
    rfl
  rw [handleWedge_follows bytes shape (by simp [applied]) (applied_receptive arrival f s) entered, becomesActive_iff a.eligible]
  simp only [own, true_and]
  tauto

/-- The engine is unbound by the end, and bound again by a LEARN step that follows ACTIVE (R79, R91). -/
theorem rebound (held : PlanHeld s) (bytes : Frame) (going : o ≠ .aborted) :
    (handleWedge arrival f bytes s).engine.binding =
      if (handleWedge arrival f bytes s).plan.sub = some .active ∧ (planStep s (b.step + 1)).phase = .learn
      then some { head := f.head, step := b.step + 1 } else none := by
  have advance := (a.ended ends held bytes going).1.advance
  have follows := a.follows ends held bytes
  have shape := a.planned held
  rw [ends] at shape
  obtain ⟨-, engineA, -⟩ := a.leaves
  have engine : (Traffic.planned arrival f s).engine = {} := by
    rw [shape, (activated_rest _ _ _).1]
    show (endStep b.step o (applied arrival f s).1).engine = {}
    rw [endStep_engine, unboundBy_bound ⟨b, by rw [engineA]; exact a.binding, rfl⟩]
  have steps : ∀ k, planStep (Traffic.planned arrival f s) k = planStep s k := fun k => by
    have same : (Traffic.planned arrival f s).steps = s.steps := by simp [Traffic.planned, applied]
    rw [planStep, planStep, same]
  have watched := handleWedge_watched arrival f bytes s
  have current : (handleWedge arrival f bytes s).plan.current = (Traffic.planned arrival f s).plan.current := by rw [watched]
  have sub : (handleWedge arrival f bytes s).plan.sub = (Traffic.planned arrival f s).plan.sub := by rw [watched]
  have entered : (handleWedge arrival f bytes s).plan.sub = some .active →
      (handleWedge arrival f bytes s).plan.current = some (b.step + 1) := fun active => by
    split at advance
    · obtain ⟨-, -, none, -⟩ := advance
      rw [none] at active
      cases active
    · exact advance.2
  rw [(handleWedge_engine_cells arrival f bytes s).1]
  show (learned arrival f s).engine.binding = _
  rw [learned]
  split
  · next learns =>
    obtain ⟨active, learn⟩ := learns
    obtain ⟨head, becomes⟩ := (follows (entered active)).mp active
    obtain ⟨event, -⟩ := (becomesActive_iff a.eligible arrival).mp becomes
    rw [event, engineStage_begins rfl (.inl (by rw [engine])) (activeLearnStep_of (by rw [← current]; exact entered active)
      (by rw [← sub]; exact active) (by rw [steps]; exact learn) (by rw [steps]; exact head)), beginPass_begun, engine]
    rfl
  · next other =>
    have none : activeLearnStep (Traffic.planned arrival f s) f.head = none := by
      rcases found : activeLearnStep (Traffic.planned arrival f s) f.head with _ | n
      · rfl
      · obtain ⟨current', active, learn, -⟩ := PlanLaw.activeLearnStep_some found
        rw [← sub] at active
        rw [← current, entered active] at current'
        obtain rfl := Option.some.inj current'
        rw [steps] at learn
        exact absurd ⟨active, learn⟩ other
    have stays : ∀ event further, engineStage f.head event further (Traffic.planned arrival f s) = Traffic.planned arrival f s :=
      fun event further => by
        unfold engineStage
        rw [none, engine]
        exact ite_self _
    rw [stays, engine]
end Applying

/-! ### The next pass (R90) -/

namespace Applying
variable (a : Applying arrival f s b p v) (further : afterApply p s.engine.passNumber v = .further)
include a further

theorem planned_further (held : PlanHeld s) :
    Traffic.planned arrival f s = activated f.head (ruled arrival f s).2.event (applied arrival f s).1 := by
  rw [a.planned held, further]
  rfl

/-- The step goes on, the tallies as the apply leaves them. -/
theorem goesOn (held : PlanHeld s) (bytes : Frame) : (handleWedge arrival f bytes s).plan.current = some b.step ∧
    (handleWedge arrival f bytes s).plan.tallies = tallied v s.plan.tallies := by
  obtain ⟨current, -, -⟩ := a.step held
  obtain ⟨-, -, plan, -⟩ := a.leaves
  have rest := ruled_plan_rest arrival f s
  have watched := handleWedge_watched arrival f bytes s
  rw [a.planned_further further held, (activated_rest _ _ _).2.1, plan] at watched
  rw [watched]
  exact ⟨(congrArg Plan.current rest).trans current, rfl⟩

/-- Which step is ACTIVE after the frame: one that no slip returns, and one that becomes so. -/
theorem active_iff (held : PlanHeld s) (bytes : Frame) : (handleWedge arrival f bytes s).plan.sub = some .active ↔
    (s.plan.sub = some .active ∧ rulingOn arrival f s ≠ .slip) ∨
      (s.plan.sub = some .waiting ∧ becomesActive arrival f s = true) := by
  obtain ⟨current, -, head⟩ := a.step held
  obtain ⟨-, -, plan, -⟩ := a.leaves
  have watched := handleWedge_watched arrival f bytes s
  have sub : (handleWedge arrival f bytes s).plan.sub =
      (activated f.head (ruled arrival f s).2.event (applied arrival f s).1).plan.sub := by
    rw [watched, ← a.planned_further further held]
  have found : (applied arrival f s).1.plan.sub = (ruled arrival f s).1.plan.sub := by rw [plan]
  have receptive := applied_receptive arrival f s
  have own : stepHead (applied arrival f s).1 = some f.head := by
    rw [stepHead, plan, show (ruled arrival f s).1.plan.current = some b.step from
      (congrArg Plan.current (ruled_plan_rest arrival f s)).trans current]
    exact congrArg some ((congrArg PlanStep.head (applied_step arrival f s b.step)).trans head)
  have ownFound : stepHead s = some f.head := by
    rw [stepHead, current, ← head]
    rfl
  rw [sub]
  rcases stands : s.plan.sub with _ | standing
  · have some : s.plan.sub.isSome = s.plan.current.isSome := held.sub
    rw [stands, current] at some
    cases some
  · cases standing with
    | active =>
      have measuring : Measuring s f.head := by
        rw [← head]
        exact held.measuring b.step current stands
      by_cases slip : rulingOn arrival f s = .slip
      · have waiting : (applied arrival f s).1.plan.sub = some .waiting := by
          rw [found, ruled_plan, planFound_eq, if_pos (.inl slip), Departures.returned_active current stands]
        have lost : ¬Receptive (ruled arrival f s).1 f.head := fun e => by
          have locked := e.clock
          rw [ruled, clockStage_slip ((rulingOn_contextFound arrival f s).trans slip)] at locked
          cases locked
        rw [activated_active waiting, receptive]
        simp [lost, slip]
      · have active : (applied arrival f s).1.plan.sub = some .active := by
          rw [found, ruled_plan, planFound_eq, leaves_same measuring.active]
          simp only [slip, Bool.false_eq_true, or_self, if_false]
          exact stands
        have stays : tryActivate f.head (applied arrival f s).1 = (applied arrival f s).1 := if_neg fun e => by
          rw [active] at e
          cases e.1
        rw [activated, stays, ite_self, active]
        simp [slip]
    | waiting =>
      have waiting : (applied arrival f s).1.plan.sub = some .waiting := by
        rw [found, ruled_plan_waiting arrival f stands]
        exact stands
      rw [activated_active waiting, receptive, becomesActive_iff a.eligible]
      simp [own, ownFound]

/-- Learning: the next pass begins at this frame where the step is ACTIVE, and waits where not. -/
theorem continued (held : PlanHeld s) (bytes : Frame) : (learned arrival f s).engine = { s.engine with
    pendingSolve := none
    passNumber := s.engine.passNumber + 1
    revs := 0
    pass := if (handleWedge arrival f bytes s).plan.sub = some .active then .accumulate else .ready
    cells := if (handleWedge arrival f bytes s).plan.sub = some .active then [] else s.engine.cells } := by
  obtain ⟨-, learn, head⟩ := a.step held
  obtain ⟨next, engineA, -⟩ := a.leaves
  obtain ⟨currentT, -⟩ := a.goesOn further held bytes
  have shape := a.planned_further further held
  have engine : (Traffic.planned arrival f s).engine =
      { s.engine with pendingSolve := none, pass := .ready, passNumber := s.engine.passNumber + 1, revs := 0 } := by
    rw [shape, (activated_rest _ _ _).1]
    show (applied arrival f s).1.engine = _
    rw [engineA, if_pos further]
  have step : planStep (Traffic.planned arrival f s) b.step = planStep s b.step := by
    have same : (Traffic.planned arrival f s).steps = s.steps := by simp [Traffic.planned, applied]
    rw [planStep, planStep, same]
  have watched := handleWedge_watched arrival f bytes s
  have current : (Traffic.planned arrival f s).plan.current = some b.step := by rw [← currentT, watched]
  have sub : (handleWedge arrival f bytes s).plan.sub = (Traffic.planned arrival f s).plan.sub := by rw [watched]
  have more : (some AfterApply.further == some AfterApply.further) = true := by decide
  rw [learned, next, further, sub, more]
  generalize Traffic.planned arrival f s = w at engine step current ⊢
  by_cases active : w.plan.sub = some .active
  · rw [engineStage_begins (Bool.or_true _) (.inr (by rw [engine]))
      (activeLearnStep_of current active (by rw [step]; exact learn) (by rw [step]; exact head)), beginPass_begun, engine,
      if_pos active, if_pos active]
    rfl
  · have none : activeLearnStep w f.head = none := by
      rcases found : activeLearnStep w f.head with _ | n
      · rfl
      · exact absurd (PlanLaw.activeLearnStep_some found).2.1 active
    have stays : ∀ event more, engineStage f.head event more w = w := fun event more => by
      unfold engineStage
      rw [none, engine]
      exact ite_self _
    rw [stays, engine, if_neg active, if_neg active]

/-- The next pass starts with empty cells, and the frame's sample is the first it may take (R81, R83). -/
theorem fresh (held : PlanHeld s) (table : DefectsHeld s) (bytes : Frame)
    (active : (handleWedge arrival f bytes s).plan.sub = some .active) (some : 1 ≤ p.revolutions) :
    FreshCells arrival f s (handleWedge arrival f bytes s) := by
  have engine := a.continued further held bytes
  rw [if_pos active, if_pos active] at engine
  refine handleWedge_fresh table arrival bytes ?_ ?_ ?_ ?_
  · rw [engine]
  · exact Samples.boundTo_iff.mpr ⟨b, by rw [engine]; exact a.binding, a.head⟩
  · rw [engine]
  · rw [cellLimit, engine]
    simp only [a.params]
    exact some
end Applying

/-! ### The obligation -/

/-- What follows the apply, in the manual's cases (R90). -/
theorem concludedBy_cases (p : PassParams) (number : Nat) (v : PendingSolve) (n : Nat) (s : State) :
    ((0 < p.limit ∧ 0 < v.updated ∧ v.largest ≤ p.limit) ∨ number = p.passes →
      ∃ o : StepOutcome, o ≠ .aborted ∧ o.failure = false ∧
        BitVec.ofNat 8 o.code = (if 0 < p.limit ∧ 0 < v.updated ∧ v.largest ≤ p.limit then 2 else 3 : Byte) ∧
        concludedBy n (afterApply p number v) s = endStep n o s) ∧
    (¬(0 < p.limit ∧ 0 < v.updated ∧ v.largest ≤ p.limit) → number ≠ p.passes → afterApply p number v = .further) := by
  by_cases converged : 0 < p.limit ∧ 0 < v.updated ∧ v.largest ≤ p.limit
  · refine ⟨fun _ => ⟨.converged, nofun, rfl, (if_pos converged).symm, ?_⟩, fun other => absurd converged other⟩
    rw [afterApply, if_pos converged]
    rfl
  · refine ⟨fun ends => ?_, fun _ more => by rw [afterApply, if_neg converged, if_neg more]⟩
    have completed := ends.resolve_left converged
    refine ⟨.completed, nofun, rfl, (if_neg converged).symm, ?_⟩
    rw [afterApply, if_neg converged, if_pos completed]
    rfl

/-- The reports of the frame, in their order. -/
theorem Applying.reports (a : Applying arrival f s b p v) (held : PlanHeld s) (bytes : Frame)
    (busy : s.out.sending.isSome = true) (room : s.out.report.length ≤ 29)
    (clean : ∀ c ∈ s.defects, c.2.head = f.head → c.2.state ≠ .suspect) : ∃ before after : List Frame,
      (s.clock.state.running = true → before = []) ∧
      (handleWedge arrival f bytes s).out.report = s.out.report ++ before ++
        reportBytes 2 (handleWedge arrival f bytes s).clock.stamp (passSummary b s.engine.passNumber v) ::
          (if (0 < p.limit ∧ 0 < v.updated ∧ v.largest ≤ p.limit) ∨ s.engine.passNumber = p.passes
            then reportBytes 5 (handleWedge arrival f bytes s).clock.stamp (resultRecord b.step f.head 3
              (if 0 < p.limit ∧ 0 < v.updated ∧ v.largest ≤ p.limit then 2 else 3)
              (((s.plan.tallies.applied + 1 : Nat) : Int)) v.largest (s.plan.tallies.foldTotal + v.meanFold)) :: after
            else after) := by
  obtain ⟨before, announced, entered, few⟩ := a.summary busy room clean
  obtain ⟨concludes, continues⟩ := concludedBy_cases p s.engine.passNumber v b.step (applied arrival f s).1
  have stamp := (handleWedge_planned arrival f bytes s).2
  by_cases ends : (0 < p.limit ∧ 0 < v.updated ∧ v.largest ≤ p.limit) ∨ s.engine.passNumber = p.passes
  · obtain ⟨o, going, -, code, concluded⟩ := concludes ends
    obtain ⟨after, report⟩ := (a.ended concluded held bytes going).2 busy few
    refine ⟨before, after, announced, ?_⟩
    rw [report, entered, a.result held, code, stamp, if_pos ends, List.append_assoc (s.out.report ++ before)]
    rfl
  · obtain ⟨open₁, open₂⟩ := not_or.mp ends
    obtain ⟨g, sending⟩ := Option.isSome_iff_exists.mp busy
    have sends := (applied_carried arrival f s).sending sending
    have rest : Carried trailing (applied arrival f s).1 (Traffic.planned arrival f s) := by
      rw [a.planned_further (continues open₁ open₂) held, (activated_rest _ _ _).1]
      exact .rest rfl rfl rfl rfl
    obtain ⟨-, -, -, after, report⟩ := (rest.trans (handleWedge_trailing arrival f bytes s)).queues sends
    refine ⟨before, after, announced, ?_⟩
    rw [report, entered, stamp, if_neg ends, List.append_assoc (s.out.report ++ before)]
    rfl

/-- Settles O32: stage 3 of the frame, then the step's end or the next pass at stages 4 and 5. -/
theorem applyReplacesTheEntries : Obligations.ApplyReplacesTheEntries := by
  intro s arrival f b p v r clip o converged completed applies foldTotal summary arrives eligible index pass binding head params
    pending length wide
  have a : Applying arrival r s b p v := ⟨eligible, index, pass, binding, head, params, pending⟩
  refine ⟨handleWedge arrival r f.bytes s, by rw [exec_arrived arrives]; exact congrArg _ (if_pos eligible), fun k x found => ?_,
    fun h k small other => ?_, a.thin f.bytes, a.solved f.bytes, a.valid f.bytes, fun held => ⟨fun plain => ?_, fun fold => ?_,
    fun busy room clean => ?_, fun ends => ?_, fun more unfinished => ?_⟩⟩
  · obtain ⟨below, value⟩ := List.getElem?_eq_some_iff.mp found
    rw [a.entries f.bytes k, Laws.get_setAll_in 0 v.entries s.runout (r.head * 512) k below, value]
  · rw [a.entries f.bytes k, Laws.get_setAll_out 0 v.entries s.runout (r.head * 512) (h * 512 + k) (by omega)]
    rfl
  · obtain ⟨-, -, -, recs, -⟩ := a.leaves
    rw [a.records held, recs, if_neg (by rw [plain]; decide)]
  · have folded := a.folded held f.bytes fold
    simp only [Figures.clampOffset_eq] at folded
    exact folded
  · obtain ⟨before, after, announced, report⟩ := a.reports held f.bytes busy room clean
    refine ⟨before, after, fun running => announced (Departures.running_iff.mpr running), ?_⟩
    rw [passSummary, head] at report
    exact report
  · obtain ⟨outcome, going, passed, -, concluded⟩ :=
      (concludedBy_cases p s.engine.passNumber v b.step (applied arrival r s).1).1 ends
    have ended := (a.ended concluded held f.bytes going).1
    rw [passed] at ended
    exact ⟨ended, a.follows concluded held f.bytes, a.rebound concluded held f.bytes going⟩
  · have further := (concludedBy_cases p s.engine.passNumber v b.step (applied arrival r s).1).2 more unfinished
    obtain ⟨current, tallies⟩ := a.goesOn further held f.bytes
    have engine := (handleWedge_engine_cells arrival r f.bytes s).1
    rw [a.continued further held f.bytes] at engine
    exact ⟨current, tallies, a.active_iff further held f.bytes, engine,
      fun active some table => a.fresh further held table f.bytes active some⟩

end Sys2Proof.Applies
end
